-- ==== Sys2Proof/Word.lean ====
section
/-! DEFINITION. The word types of MPTCORE: codewords, check sequences and the opaque host types. -/

namespace Sys2Proof

/-- A 48-bit codeword; bit 47 is the first in protocol order (R7, R40). -/
abbrev Codeword := BitVec 48

/-- A 16-bit frame check sequence: 15 check bits and one overall parity bit (R90). -/
abbrev Check := BitVec 16

/-- One byte of an opaque byte string. -/
abbrev Byte := BitVec 8

/-- A completion tag, a `TAGW`-bit value the block never interprets (R26). DESIGN CHOICE, log 22: held as a natural,
its width checked against the configuration where an item enters the block. -/
abbrev Tag := Nat

/-- The identification payload, a finite byte string stored and handed over unread (R26; log 22). -/
abbrev Payload := List Byte

/-- The type of `CH_ID`, only ever copied into `EV_RXFWD` (R26, R267; log 22). -/
abbrev ChId := Nat

end Sys2Proof
end

