-- ==== Sys2Proof/Machine/Bits.lean ====
section
/-! DEFINITION. Bit fields: slices, masks and field placement (R7, R71). -/

namespace Sys2Proof.Machine

/-- `mask_48(v)`: a codeword input of any width is reduced to its low 48 bits, a narrower one is zero-extended (R42). -/
def mask48 (v : Nat) : Codeword := BitVec.ofNat 48 v

/-- `mask_w(v) = v mod 2^w` (R7). -/
def mask (w v : Nat) : Nat := v % 2 ^ w

/-- A field of declared width `w`: `mask_w(v)`, silent truncation on overflow (R71, R110). -/
def field (w v : Nat) : BitVec w := BitVec.ofNat w v

/-- `cw[hi:lo]`, the inclusive slice `(cw >> lo) mod 2^(hi-lo+1)` (R7). -/
def slice (cw : Codeword) (hi lo : Nat) : Nat := cw.toNat / 2 ^ lo % 2 ^ (hi - lo + 1)

end Sys2Proof.Machine
end

