-- ==== Sys2Proof/Machine/Fcs.lean ====
section
/-! DEFINITION. The FCS engine and the two synchronisation codewords (40_fcs_sync.md). -/

namespace Sys2Proof.Machine

/-- `FCS_POLY`, the feedback constant (R5, R91). -/
def fcsPoly : Check := 0x6815#16

/-- `FCS_FINAL_XOR`, the final inversion (R5, R91). -/
def fcsFinalXor : Check := 0x0002#16

/-- `FCS_MASK`, which leaves bit 0 to the parity (R5, R91). -/
def fcsMask : Check := 0xFFFE#16

/-- The FCS engine's working registers, alive during one evaluation only (R25). -/
structure FcsRegs where
  ck : Check
  par : Bool
deriving DecidableEq, Repr

/-- Both working registers at the start of an evaluation (R25, R91). -/
def fcsInit : FcsRegs := { ck := 0#16, par := false }

/-- One input bit: the parity takes it; the feedback test uses the bit and the old top bit, before the shift (R91 a, b). -/
def fcsStep (r : FcsRegs) (b : Bool) : FcsRegs :=
  { ck := (if b ^^ r.ck.getLsbD 15 then r.ck ^^^ fcsPoly else r.ck) <<< 1
    par := r.par ^^ b }

/-- The engine run over bits `n-1` down to 0 of the codeword, most significant first (R91). -/
def fcsRun (cw : Codeword) : Nat → FcsRegs → FcsRegs
  | 0, r => r
  | n + 1, r => fcsRun cw n (fcsStep r (cw.getLsbD n))

/-- The exclusive or of the low `n` bits (R7's `parity` over a check word). -/
def parityOf (ck : Check) : Nat → Bool
  | 0 => false
  | n + 1 => ck.getLsbD n ^^ parityOf ck n

/-- `fcs : u48 → u16` (R90, R91). -/
def fcs (cw : Codeword) : Check :=
  let r := fcsRun cw 48 fcsInit
  let ck := (r.ck ^^^ fcsFinalXor) &&& fcsMask
  ck ||| (BitVec.ofBool (r.par ^^ parityOf ck 16)).setWidth 16

/-- The two families of synchronisation codewords (R93). -/
inductive SyncFamily
  | ccsc
  | dcsc
deriving DecidableEq, Repr

/-- `SYNC`: the FCS of every codeword of the family, `SYNC_CC` and `SYNC_TC` (R5, R93). -/
def SyncFamily.sync : SyncFamily → Check
  | .ccsc => 0xC4D7#16
  | .dcsc => 0x3B28#16

/-- `PRE16`, the low half of the fixed 32-bit prefix (R93). -/
def SyncFamily.pre16 : SyncFamily → BitVec 16
  | .ccsc => 0xC4D4#16
  | .dcsc => 0x3B2A#16

/-- `E`, the expected low bit of the preimage's FCS (R93; conflict C1, log 17). -/
def SyncFamily.expect : SyncFamily → Bool
  | .ccsc => true
  | .dcsc => false

/-- The preamble, low half of every synchronisation codeword (R61). -/
def preamble : BitVec 16 := 0xAAAA#16

/-- `P0`, the preimage: `0xAAAA`, the prefix, the system code shifted left by 1 (R93). -/
def syncPreimage (s : BitVec 15) (fam : SyncFamily) : Codeword := 0xAAAA#16 ++ fam.pre16 ++ s ++ 0#1

/-- `CCS`, the completion sequence: the marker bit, then the upper 15 bits of the FCS with their bit 0 inverted (R93). -/
def completion (s : BitVec 15) (fam : SyncFamily) : BitVec 16 :=
  let p0 := syncPreimage s fam
  let x := (fcs p0).getLsbD 0 != fam.expect
  let f := if x then fcs (p0 ||| 1#48) else fcs p0
  BitVec.ofBool x ++ (f.extractLsb' 1 15 ^^^ 1#15)

/-- `SyncCW(s, fam)`, laid out as format SYNC (R61, R93). -/
def syncCW (s : BitVec 15) (fam : SyncFamily) : Codeword := 0#1 ++ s ++ completion s fam ++ preamble

end Sys2Proof.Machine
end

