-- ==== Sys2Proof/Syntax.lean ====
section
/-! DEFINITION. The syntax: the codec's closed union of variants, the operand of the two enqueues, and one constructor of
`Instr` per row of spec/opcode_table.json. -/

namespace Sys2Proof

/-- The codec's closed set of codeword variants (R110). A field is a natural number, masked to its declared width when it
is packed (R110, U14). The ALH and ACK families carry `FUNC` as a field (R114, R122, D35). -/
inductive Variant
  | ccsc (sys : Nat)
  | dcsc (sys : Nat)
  | gtc (pfix ident1 d chan ident2 n2 : Nat)
  | alhFam (func pfix ident1 chan4 wt rsvd m n : Nat)
  | ackFam (func pfix ident1 ident2 qual n : Nat)
  | ahy (pfix ident1 ident2 d point check e ad : Nat)
  | ahyx (pfix ident1 ident2 rsvd : Nat)
  | ahyq (pfix ident1 ident2 status : Nat)
  | ahyc (pfix ident1 ident2 slots desc : Nat)
  | rqs (pfix ident1 ident2 dt level ext flag1 flag2 : Nat)
  | rqx (pfix ident1 ident2 rsvd : Nat)
  | rqt (pfix ident1 ident2 sd div flag1 flag2 : Nat)
  | rqe (pfix ident1 ident2 d rsvd ext flag1 flag2 : Nat)
  | rqr (pfix ident1 info rsvd : Nat)
  | rqq (pfix ident1 ident2 status : Nat)
  | rqc (pfix ident1 ident2 slots ext flag1 flag2 : Nat)
  | maint (pfix ident1 chan oper rsvd spare : Nat)
  | clear (chan cont rsvd spare : Nat)
  | move (pfix ident1 cont m2 rsvd spare : Nat)
  | bcast (sysdef p15 p18 : Nat)
  | samis (p1 p2 : Nat)
deriving DecidableEq, Repr

/-- The `TxItem` operand of `ENQ_CC` and `ENQ_TC` as the host gives it (R22, R73): the codeword is a natural that the
enqueue reduces to 48 bits (R42, R194). -/
structure ItemOperand where
  cw : Nat
  txcEn : Bool
  txcTag : Tag
  rlen : Nat
  rxcEn : Bool
  rxcTag : Tag
deriving DecidableEq, Repr

/-- One constructor per row of spec/opcode_table.json, in its order: 40 codeword variants and the TRAFFIC marker
(logs 2 and 3 say what they mean as instructions), then the 13 transactions (R72). -/
inductive Instr
  | ccsc (sys : Nat)
  | dcsc (sys : Nat)
  | gtc (pfix ident1 d chan ident2 n2 : Nat)
  | alh (pfix ident1 chan4 wt rsvd m n : Nat)
  | alhs (pfix ident1 chan4 wt rsvd m n : Nat)
  | alhd (pfix ident1 chan4 wt rsvd m n : Nat)
  | alhe (pfix ident1 chan4 wt rsvd m n : Nat)
  | alhr (pfix ident1 chan4 wt rsvd m n : Nat)
  | alhx (pfix ident1 chan4 wt rsvd m n : Nat)
  | alhf (pfix ident1 chan4 wt rsvd m n : Nat)
  | ack (pfix ident1 ident2 qual n : Nat)
  | acki (pfix ident1 ident2 qual n : Nat)
  | ackq (pfix ident1 ident2 qual n : Nat)
  | ackx (pfix ident1 ident2 qual n : Nat)
  | ackv (pfix ident1 ident2 qual n : Nat)
  | acke (pfix ident1 ident2 qual n : Nat)
  | ackt (pfix ident1 ident2 qual n : Nat)
  | ackb (pfix ident1 ident2 qual n : Nat)
  | ahy (pfix ident1 ident2 d point check e ad : Nat)
  | ahyx (pfix ident1 ident2 rsvd : Nat)
  | ahyq (pfix ident1 ident2 status : Nat)
  | ahyc (pfix ident1 ident2 slots desc : Nat)
  | rqs (pfix ident1 ident2 dt level ext flag1 flag2 : Nat)
  | rqx (pfix ident1 ident2 rsvd : Nat)
  | rqt (pfix ident1 ident2 sd div flag1 flag2 : Nat)
  | rqe (pfix ident1 ident2 d rsvd ext flag1 flag2 : Nat)
  | rqr (pfix ident1 info rsvd : Nat)
  | rqq (pfix ident1 ident2 status : Nat)
  | rqc (pfix ident1 ident2 slots ext flag1 flag2 : Nat)
  | maint (pfix ident1 chan oper rsvd spare : Nat)
  | clear (chan cont rsvd spare : Nat)
  | move (pfix ident1 cont m2 rsvd spare : Nat)
  | bcast (sysdef p15 p18 : Nat)
  | bcastAnn (sys chan spare rsvd : Nat)
  | bcastWdr (sys chan spare rsvd : Nat)
  | bcastMaint (sys per ival pon ident rsvd spare : Nat)
  | bcastReg (sys rsvd spare : Nat)
  | bcastAdj (sys chan spare rsvd adjsite : Nat)
  | bcastVote (sys chan spare rsvd adjsite : Nat)
  | samis (p1 p2 : Nat)
  | traffic
  | nop
  | start
  | stop
  | enqCC (it : ItemOperand)
  | enqTC (it : ItemOperand)
  | setIdent (p : Payload)
  | txTick
  | rxTick (v : Nat)
  | identDone
  | fcs (v : Nat)
  | enc (v : Variant)
  | dec (v : Nat)
  | reset
deriving DecidableEq, Repr

end Sys2Proof
end

