-- ==== Sys2Proof/Machine/Codec.lean ====
section
/-! DEFINITION. The codec: `encode` of every variant by the layout tables of 30_encoding.md, `decode` of the variants a radio
unit can send (42_codec_decode.md). The field positions are the spec's, taken by it from general knowledge (log 1). -/

namespace Sys2Proof.Machine

/-! ### Layouts, high bits first (R61 to R68) -/

/-- Format ADDR: `1 PFIX IDENT1 1 CAT=0 TYPE FUNC P` (R63), the `HDR` of R110 with its parameter field. -/
def addrWord (pfix ident1 type func : Nat) (p : BitVec 18) : Codeword :=
  1#1 ++ field 7 pfix ++ field 13 ident1 ++ 1#1 ++ 0#3 ++ field 2 type ++ field 3 func ++ p

/-- The parameter field that begins with `IDENT2` [17:5] (R67). -/
def ident2Param (ident2 : Nat) (low : BitVec 5) : BitVec 18 := field 13 ident2 ++ low

/-- Five one-bit fields, bit 4 first (R67). -/
def flags5 (b4 b3 b2 b1 b0 : Nat) : BitVec 5 := field 1 b4 ++ field 1 b3 ++ field 1 b2 ++ field 1 b1 ++ field 1 b0

/-- `ALHfam` (R114). -/
def alhWord (func pfix ident1 chan4 wt rsvd m n : Nat) : Codeword :=
  addrWord pfix ident1 0 func (field 4 chan4 ++ field 3 wt ++ field 2 rsvd ++ field 5 m ++ field 4 n)

/-- `ACKfam` (R122). -/
def ackWord (func pfix ident1 ident2 qual n : Nat) : Codeword :=
  addrWord pfix ident1 1 func (ident2Param ident2 (field 1 qual ++ field 4 n))

/-- `T2`, the TYPE 2 words with an `IDENT2` and five low bits (R131). -/
def type2Word (func pfix ident1 ident2 : Nat) (low : BitVec 5) : Codeword :=
  addrWord pfix ident1 2 func (ident2Param ident2 low)

/-- Format GTC (R62, R113). -/
def gtcWord (pfix ident1 d chan ident2 n2 : Nat) : Codeword :=
  1#1 ++ field 7 pfix ++ field 13 ident1 ++ 0#1 ++ field 1 d ++ field 10 chan ++ field 13 ident2 ++ field 2 n2

/-- Format CLEAR (R64, R144). -/
def clearWord (chan cont rsvd spare : Nat) : Codeword :=
  1#1 ++ field 10 chan ++ field 10 cont ++ 1#1 ++ 0#3 ++ 3#2 ++ 2#3 ++ field 4 rsvd ++ field 2 spare ++ 0xAAA#12

/-- Format BCAST (R65, R146). -/
def bcastWord (sysdef p15 p18 : Nat) : Codeword :=
  1#1 ++ field 5 sysdef ++ field 15 p15 ++ 1#1 ++ 0#3 ++ 3#2 ++ 4#3 ++ field 18 p18

/-- Format SAM (R66, R153). -/
def samisWord (p1 p2 : Nat) : Codeword :=
  1#1 ++ field 20 p1 ++ 1#1 ++ 1#3 ++ 0#3 ++ field 20 p2

/-! ### The `P18` of the six broadcast views (R68) -/

/-- `P18` of BCAST_ANN and BCAST_WDR (R147, R148). -/
def chanParam (chan spare rsvd : Nat) : Nat := (field 10 chan ++ field 2 spare ++ field 6 rsvd).toNat

/-- `P18` of BCAST_MAINT (R149). -/
def maintParam (per ival pon ident rsvd spare : Nat) : Nat :=
  (field 1 per ++ field 5 ival ++ field 1 pon ++ field 1 ident ++ field 2 rsvd ++ field 8 spare).toNat

/-- `P18` of BCAST_REG (R150). -/
def regParam (rsvd spare : Nat) : Nat := (field 4 rsvd ++ field 14 spare).toNat

/-- `P18` of BCAST_ADJ and BCAST_VOTE (R151, R152). -/
def siteParam (chan spare rsvd adjsite : Nat) : Nat :=
  (field 10 chan ++ field 2 spare ++ field 2 rsvd ++ field 4 adjsite).toNat

/-- The view BCAST_ANN as the raw broadcast it abbreviates (R147). -/
def bcastAnn (sys chan spare rsvd : Nat) : Variant := .bcast 0 sys (chanParam chan spare rsvd)

/-- The view BCAST_WDR (R148). -/
def bcastWdr (sys chan spare rsvd : Nat) : Variant := .bcast 1 sys (chanParam chan spare rsvd)

/-- The view BCAST_MAINT (R149). -/
def bcastMaint (sys per ival pon ident rsvd spare : Nat) : Variant :=
  .bcast 2 sys (maintParam per ival pon ident rsvd spare)

/-- The view BCAST_REG (R150). -/
def bcastReg (sys rsvd spare : Nat) : Variant := .bcast 3 sys (regParam rsvd spare)

/-- The view BCAST_ADJ (R151). -/
def bcastAdj (sys chan spare rsvd adjsite : Nat) : Variant := .bcast 4 sys (siteParam chan spare rsvd adjsite)

/-- The view BCAST_VOTE (R152). -/
def bcastVote (sys chan spare rsvd adjsite : Nat) : Variant := .bcast 5 sys (siteParam chan spare rsvd adjsite)

/-! ### Encode -/

/-- `encode : Variant → u48`, pure and total, every field masked to its width (R110 to R153). -/
def encode : Variant → Codeword
  | .ccsc sys => syncCW (field 15 sys) .ccsc
  | .dcsc sys => syncCW (field 15 sys) .dcsc
  | .gtc pfix ident1 d chan ident2 n2 => gtcWord pfix ident1 d chan ident2 n2
  | .alhFam func pfix ident1 chan4 wt rsvd m n => alhWord func pfix ident1 chan4 wt rsvd m n
  | .ackFam func pfix ident1 ident2 qual n => ackWord func pfix ident1 ident2 qual n
  | .ahy pfix ident1 ident2 d point check e ad => type2Word 0 pfix ident1 ident2 (flags5 d point check e ad)
  | .ahyx pfix ident1 ident2 rsvd => type2Word 2 pfix ident1 ident2 (field 5 rsvd)
  | .ahyq pfix ident1 ident2 status => type2Word 6 pfix ident1 ident2 (field 5 status)
  | .ahyc pfix ident1 ident2 slots desc => type2Word 7 pfix ident1 ident2 (field 2 slots ++ field 3 desc)
  | .rqs pfix ident1 ident2 dt level ext flag1 flag2 =>
    type2Word 0 pfix ident1 ident2 (flags5 dt level ext flag1 flag2)
  | .rqx pfix ident1 ident2 rsvd => type2Word 2 pfix ident1 ident2 (field 5 rsvd)
  | .rqt pfix ident1 ident2 sd div flag1 flag2 =>
    type2Word 3 pfix ident1 ident2 (field 2 sd ++ field 1 div ++ field 1 flag1 ++ field 1 flag2)
  | .rqe pfix ident1 ident2 d rsvd ext flag1 flag2 =>
    type2Word 4 pfix ident1 ident2 (flags5 d rsvd ext flag1 flag2)
  | .rqr pfix ident1 info rsvd => addrWord pfix ident1 2 5 (field 15 info ++ field 3 rsvd)
  | .rqq pfix ident1 ident2 status => type2Word 6 pfix ident1 ident2 (field 5 status)
  | .rqc pfix ident1 ident2 slots ext flag1 flag2 =>
    type2Word 7 pfix ident1 ident2 (field 2 slots ++ field 1 ext ++ field 1 flag1 ++ field 1 flag2)
  | .maint pfix ident1 chan oper rsvd spare =>
    addrWord pfix ident1 3 1 (field 10 chan ++ field 3 oper ++ field 2 rsvd ++ field 3 spare)
  | .clear chan cont rsvd spare => clearWord chan cont rsvd spare
  | .move pfix ident1 cont m2 rsvd spare =>
    addrWord pfix ident1 3 3 (field 10 cont ++ field 2 m2 ++ field 2 rsvd ++ field 4 spare)
  | .bcast sysdef p15 p18 => bcastWord sysdef p15 p18
  | .samis p1 p2 => samisWord p1 p2

/-! ### Decode -/

/-- `IDENT2` = `x[17:5]` (R162 to R169). -/
def ident2Of (x : Codeword) : Nat := slice x 17 5

/-- The ACK family, member `FUNC` (R162). -/
def decodeAck (x : Codeword) : Variant :=
  .ackFam (slice x 20 18) (slice x 46 40) (slice x 39 27) (ident2Of x) (slice x 4 4) (slice x 3 0)

/-- TYPE 2 by `FUNC` as a radio unit sends it; `FUNC` 1 is unassigned (R161, R163 to R169). -/
def decodeType2 (x : Codeword) : Option Variant :=
  let pfix := slice x 46 40
  let ident1 := slice x 39 27
  match slice x 20 18 with
  | 0 => some (.rqs pfix ident1 (ident2Of x) (slice x 4 4) (slice x 3 3) (slice x 2 2) (slice x 1 1) (slice x 0 0))
  | 2 => some (.rqx pfix ident1 (ident2Of x) (slice x 4 0))
  | 3 => some (.rqt pfix ident1 (ident2Of x) (slice x 4 3) (slice x 2 2) (slice x 1 1) (slice x 0 0))
  | 4 => some (.rqe pfix ident1 (ident2Of x) (slice x 4 4) (slice x 3 3) (slice x 2 2) (slice x 1 1) (slice x 0 0))
  | 5 => some (.rqr pfix ident1 (slice x 17 3) (slice x 2 0))
  | 6 => some (.rqq pfix ident1 (ident2Of x) (slice x 4 0))
  | 7 => some (.rqc pfix ident1 (ident2Of x) (slice x 4 3) (slice x 2 2) (slice x 1 1) (slice x 0 0))
  | _ => none

/-- MAINT (R170). -/
def decodeMaint (x : Codeword) : Variant :=
  .maint (slice x 46 40) (slice x 39 27) (slice x 17 8) (slice x 7 5) (slice x 4 3) (slice x 2 0)

/-- SAMIS (R171). -/
def decodeSamis (x : Codeword) : Variant := .samis (slice x 46 27) (slice x 19 0)

/-- Category 0 by `TYPE` and `FUNC` (R161). -/
def decodeCat0 (x : Codeword) : Option Variant :=
  match slice x 22 21 with
  | 1 => some (decodeAck x)
  | 2 => decodeType2 x
  | 3 => if slice x 20 18 = 1 then some (decodeMaint x) else none
  | _ => none

/-- `decode : u48 → Option Variant`, pure and total: the variants receivable from a radio unit, `none` for every other
word (R160, R161, R172). -/
def decode (x : Codeword) : Option Variant :=
  if slice x 47 47 = 0 then none
  else if slice x 26 26 = 0 then none
  else match slice x 25 23 with
    | 0 => decodeCat0 x
    | 1 => if slice x 22 20 = 0 then some (decodeSamis x) else none
    | _ => none

/-- The variants `decode` can return: those receivable from a radio unit (R160). -/
def receivable : Variant → Bool
  | .ackFam .. | .rqs .. | .rqx .. | .rqt .. | .rqe .. | .rqr .. | .rqq .. | .rqc .. | .maint .. | .samis .. => true
  | .ccsc .. | .dcsc .. | .gtc .. | .alhFam .. | .ahy .. | .ahyx .. | .ahyq .. | .ahyc .. | .clear .. | .move ..
  | .bcast .. => false

/-- A variant with every field masked to its declared width: what a word can carry of it (R110, R173 b, U14). -/
def masked : Variant → Variant
  | .ccsc sys => .ccsc (mask 15 sys)
  | .dcsc sys => .dcsc (mask 15 sys)
  | .gtc pfix ident1 d chan ident2 n2 =>
    .gtc (mask 7 pfix) (mask 13 ident1) (mask 1 d) (mask 10 chan) (mask 13 ident2) (mask 2 n2)
  | .alhFam func pfix ident1 chan4 wt rsvd m n =>
    .alhFam (mask 3 func) (mask 7 pfix) (mask 13 ident1) (mask 4 chan4) (mask 3 wt) (mask 2 rsvd) (mask 5 m) (mask 4 n)
  | .ackFam func pfix ident1 ident2 qual n =>
    .ackFam (mask 3 func) (mask 7 pfix) (mask 13 ident1) (mask 13 ident2) (mask 1 qual) (mask 4 n)
  | .ahy pfix ident1 ident2 d point check e ad =>
    .ahy (mask 7 pfix) (mask 13 ident1) (mask 13 ident2) (mask 1 d) (mask 1 point) (mask 1 check) (mask 1 e) (mask 1 ad)
  | .ahyx pfix ident1 ident2 rsvd => .ahyx (mask 7 pfix) (mask 13 ident1) (mask 13 ident2) (mask 5 rsvd)
  | .ahyq pfix ident1 ident2 status => .ahyq (mask 7 pfix) (mask 13 ident1) (mask 13 ident2) (mask 5 status)
  | .ahyc pfix ident1 ident2 slots desc =>
    .ahyc (mask 7 pfix) (mask 13 ident1) (mask 13 ident2) (mask 2 slots) (mask 3 desc)
  | .rqs pfix ident1 ident2 dt level ext flag1 flag2 =>
    .rqs (mask 7 pfix) (mask 13 ident1) (mask 13 ident2) (mask 1 dt) (mask 1 level) (mask 1 ext) (mask 1 flag1) (mask 1 flag2)
  | .rqx pfix ident1 ident2 rsvd => .rqx (mask 7 pfix) (mask 13 ident1) (mask 13 ident2) (mask 5 rsvd)
  | .rqt pfix ident1 ident2 sd div flag1 flag2 =>
    .rqt (mask 7 pfix) (mask 13 ident1) (mask 13 ident2) (mask 2 sd) (mask 1 div) (mask 1 flag1) (mask 1 flag2)
  | .rqe pfix ident1 ident2 d rsvd ext flag1 flag2 =>
    .rqe (mask 7 pfix) (mask 13 ident1) (mask 13 ident2) (mask 1 d) (mask 1 rsvd) (mask 1 ext) (mask 1 flag1) (mask 1 flag2)
  | .rqr pfix ident1 info rsvd => .rqr (mask 7 pfix) (mask 13 ident1) (mask 15 info) (mask 3 rsvd)
  | .rqq pfix ident1 ident2 status => .rqq (mask 7 pfix) (mask 13 ident1) (mask 13 ident2) (mask 5 status)
  | .rqc pfix ident1 ident2 slots ext flag1 flag2 =>
    .rqc (mask 7 pfix) (mask 13 ident1) (mask 13 ident2) (mask 2 slots) (mask 1 ext) (mask 1 flag1) (mask 1 flag2)
  | .maint pfix ident1 chan oper rsvd spare =>
    .maint (mask 7 pfix) (mask 13 ident1) (mask 10 chan) (mask 3 oper) (mask 2 rsvd) (mask 3 spare)
  | .clear chan cont rsvd spare => .clear (mask 10 chan) (mask 10 cont) (mask 4 rsvd) (mask 2 spare)
  | .move pfix ident1 cont m2 rsvd spare =>
    .move (mask 7 pfix) (mask 13 ident1) (mask 10 cont) (mask 2 m2) (mask 2 rsvd) (mask 4 spare)
  | .bcast sysdef p15 p18 => .bcast (mask 5 sysdef) (mask 15 p15) (mask 18 p18)
  | .samis p1 p2 => .samis (mask 20 p1) (mask 20 p2)

end Sys2Proof.Machine
end

