-- ==== Sys2Proof/Config.lean ====
section
/-! DEFINITION. What an instance fixes: the sequencer's state names and the configuration record (00_scope.md R6, 10_state.md R24). -/

namespace Sys2Proof

/-- The five sequencer states with the source's names; the register never holds 5, 6 or 7 (R11, R283; log 21). -/
inductive SeqState
  /-- 0, `DECIDE/BEGIN_FRAME_CODEWORD`. -/
  | beginFrame
  /-- 1, `CONTROL_CHANNEL_CODEWORD`. -/
  | controlCodeword
  /-- 2, `TRAFFIC_QUIESCENT`. -/
  | trafficQuiescent
  /-- 3, `TRAFFIC_CODEWORD`. -/
  | trafficCodeword
  /-- 4, `IDENT_SEQUENCE_IN_PROGRESS`. -/
  | identInProgress
deriving DecidableEq, Repr

/-- The configuration record: inputs of the instance, fixed for its life, written by no transaction (R24). -/
structure Config where
  /-- `SYSCODE`, the system code of every CCSC the block emits. -/
  syscode : BitVec 15
  /-- `CHAN`, this channel's number; its low 4 bits are the idle invitation's `CHAN4`. -/
  chan : BitVec 10
  /-- `CH_ID`, the channel identity handed to the receive handler. -/
  chId : ChId
  /-- `INIT_STATE`, the sequencer state after reset. -/
  initState : SeqState
  /-- `AF_RESET`, the Aloha frame counter after reset. -/
  afReset : Fin 6
  /-- `ALOHA_STEP : 0..5 → 0..5 × 0..5` as its table: entry `af` is `(af', n)` (R217; log 8). -/
  alohaStep : Vector (Fin 6 × Fin 6) 6
  /-- `ALH_FUNC`. -/
  alhFunc : BitVec 3
  /-- `ALH_PFIX`. -/
  alhPfix : BitVec 7
  /-- `ALH_IDENT1`. -/
  alhIdent1 : BitVec 13
  /-- `ALH_WT`. -/
  alhWt : BitVec 3
  /-- `ALH_RSVD`. -/
  alhRsvd : BitVec 2
  /-- `ALH_M`. -/
  alhM : BitVec 5
  /-- `FILLER_CW`, the filler continuation codeword. -/
  fillerCw : Codeword
  /-- `TRAFFIC_WIRE`, opaque and OPEN: what the modem puts on air for the marker; no rule reads it (R154; log 11). -/
  trafficWire : List Byte
  /-- `QDEPTH`, the capacity of each queue; `none` is infinite, the default (R53; log 12). -/
  qdepth : Option Nat
  /-- `RLEN_MAX`, the largest reply length an item may carry. -/
  rlenMax : Nat
  /-- `TAGW`, the width of a completion tag. -/
  tagw : Nat
deriving DecidableEq, Repr

end Sys2Proof
end

