-- ==== Sys2Proof/WellFormed.lean ====
section
/-! DEFINITION. Well-formedness: every field within its declared width (R67, R68, R72, R110). The machine runs an
ill-formed instruction too, masking each field (R110, R42); well-formedness is what the encodings can carry. -/

namespace Sys2Proof

/-- A field value within its declared width. -/
abbrev fits (w v : Nat) : Bool := decide (v < 2 ^ w)

/-- Prefix and ident within 7 and 13 bits, the header fields of every addressed format (R63). -/
abbrev fitsAddr (pfix ident1 : Nat) : Bool := fits 7 pfix && fits 13 ident1

/-- The parameter field of the ALH family with its header (R67). -/
abbrev fitsAlh (pfix ident1 chan4 wt rsvd m n : Nat) : Bool :=
  fitsAddr pfix ident1 && fits 4 chan4 && fits 3 wt && fits 2 rsvd && fits 5 m && fits 4 n

/-- The parameter field of the ACK family with its header (R67). -/
abbrev fitsAck (pfix ident1 ident2 qual n : Nat) : Bool :=
  fitsAddr pfix ident1 && fits 13 ident2 && fits 1 qual && fits 4 n

/-- Every field of the variant is within its declared width. -/
def Variant.wf : Variant → Bool
  | .ccsc sys => fits 15 sys
  | .dcsc sys => fits 15 sys
  | .gtc pfix ident1 d chan ident2 n2 =>
    fitsAddr pfix ident1 && fits 1 d && fits 10 chan && fits 13 ident2 && fits 2 n2
  | .alhFam func pfix ident1 chan4 wt rsvd m n => fits 3 func && fitsAlh pfix ident1 chan4 wt rsvd m n
  | .ackFam func pfix ident1 ident2 qual n => fits 3 func && fitsAck pfix ident1 ident2 qual n
  | .ahy pfix ident1 ident2 d point check e ad =>
    fitsAddr pfix ident1 && fits 13 ident2 && fits 1 d && fits 1 point && fits 1 check && fits 1 e && fits 1 ad
  | .ahyx pfix ident1 ident2 rsvd => fitsAddr pfix ident1 && fits 13 ident2 && fits 5 rsvd
  | .ahyq pfix ident1 ident2 status => fitsAddr pfix ident1 && fits 13 ident2 && fits 5 status
  | .ahyc pfix ident1 ident2 slots desc => fitsAddr pfix ident1 && fits 13 ident2 && fits 2 slots && fits 3 desc
  | .rqs pfix ident1 ident2 dt level ext flag1 flag2 =>
    fitsAddr pfix ident1 && fits 13 ident2 && fits 1 dt && fits 1 level && fits 1 ext && fits 1 flag1 && fits 1 flag2
  | .rqx pfix ident1 ident2 rsvd => fitsAddr pfix ident1 && fits 13 ident2 && fits 5 rsvd
  | .rqt pfix ident1 ident2 sd div flag1 flag2 =>
    fitsAddr pfix ident1 && fits 13 ident2 && fits 2 sd && fits 1 div && fits 1 flag1 && fits 1 flag2
  | .rqe pfix ident1 ident2 d rsvd ext flag1 flag2 =>
    fitsAddr pfix ident1 && fits 13 ident2 && fits 1 d && fits 1 rsvd && fits 1 ext && fits 1 flag1 && fits 1 flag2
  | .rqr pfix ident1 info rsvd => fitsAddr pfix ident1 && fits 15 info && fits 3 rsvd
  | .rqq pfix ident1 ident2 status => fitsAddr pfix ident1 && fits 13 ident2 && fits 5 status
  | .rqc pfix ident1 ident2 slots ext flag1 flag2 =>
    fitsAddr pfix ident1 && fits 13 ident2 && fits 2 slots && fits 1 ext && fits 1 flag1 && fits 1 flag2
  | .maint pfix ident1 chan oper rsvd spare =>
    fitsAddr pfix ident1 && fits 10 chan && fits 3 oper && fits 2 rsvd && fits 3 spare
  | .clear chan cont rsvd spare => fits 10 chan && fits 10 cont && fits 4 rsvd && fits 2 spare
  | .move pfix ident1 cont m2 rsvd spare =>
    fitsAddr pfix ident1 && fits 10 cont && fits 2 m2 && fits 2 rsvd && fits 4 spare
  | .bcast sysdef p15 p18 => fits 5 sysdef && fits 15 p15 && fits 18 p18
  | .samis p1 p2 => fits 20 p1 && fits 20 p2

/-- The `u48` codeword of an enqueue operand is within 48 bits (R72). -/
def ItemOperand.wf (it : ItemOperand) : Bool := fits 48 it.cw

/-- The item is representable in the operand format of R73 under this configuration: reply length at most `RLEN_MAX`
(U17), tags within `TAGW` bits (R26; log 13). The enqueues refuse an item that is not. -/
def ItemOperand.representable (it : ItemOperand) (c : Config) : Bool :=
  decide (it.rlen ≤ c.rlenMax) && fits c.tagw it.txcTag && fits c.tagw it.rxcTag

/-- Every operand of the instruction is within its declared width. -/
def Instr.wf : Instr → Bool
  | .ccsc sys => fits 15 sys
  | .dcsc sys => fits 15 sys
  | .gtc pfix ident1 d chan ident2 n2 => Variant.wf (.gtc pfix ident1 d chan ident2 n2)
  | .alh pfix ident1 chan4 wt rsvd m n => fitsAlh pfix ident1 chan4 wt rsvd m n
  | .alhs pfix ident1 chan4 wt rsvd m n => fitsAlh pfix ident1 chan4 wt rsvd m n
  | .alhd pfix ident1 chan4 wt rsvd m n => fitsAlh pfix ident1 chan4 wt rsvd m n
  | .alhe pfix ident1 chan4 wt rsvd m n => fitsAlh pfix ident1 chan4 wt rsvd m n
  | .alhr pfix ident1 chan4 wt rsvd m n => fitsAlh pfix ident1 chan4 wt rsvd m n
  | .alhx pfix ident1 chan4 wt rsvd m n => fitsAlh pfix ident1 chan4 wt rsvd m n
  | .alhf pfix ident1 chan4 wt rsvd m n => fitsAlh pfix ident1 chan4 wt rsvd m n
  | .ack pfix ident1 ident2 qual n => fitsAck pfix ident1 ident2 qual n
  | .acki pfix ident1 ident2 qual n => fitsAck pfix ident1 ident2 qual n
  | .ackq pfix ident1 ident2 qual n => fitsAck pfix ident1 ident2 qual n
  | .ackx pfix ident1 ident2 qual n => fitsAck pfix ident1 ident2 qual n
  | .ackv pfix ident1 ident2 qual n => fitsAck pfix ident1 ident2 qual n
  | .acke pfix ident1 ident2 qual n => fitsAck pfix ident1 ident2 qual n
  | .ackt pfix ident1 ident2 qual n => fitsAck pfix ident1 ident2 qual n
  | .ackb pfix ident1 ident2 qual n => fitsAck pfix ident1 ident2 qual n
  | .ahy pfix ident1 ident2 d point check e ad => Variant.wf (.ahy pfix ident1 ident2 d point check e ad)
  | .ahyx pfix ident1 ident2 rsvd => Variant.wf (.ahyx pfix ident1 ident2 rsvd)
  | .ahyq pfix ident1 ident2 status => Variant.wf (.ahyq pfix ident1 ident2 status)
  | .ahyc pfix ident1 ident2 slots desc => Variant.wf (.ahyc pfix ident1 ident2 slots desc)
  | .rqs pfix ident1 ident2 dt level ext flag1 flag2 => Variant.wf (.rqs pfix ident1 ident2 dt level ext flag1 flag2)
  | .rqx pfix ident1 ident2 rsvd => Variant.wf (.rqx pfix ident1 ident2 rsvd)
  | .rqt pfix ident1 ident2 sd div flag1 flag2 => Variant.wf (.rqt pfix ident1 ident2 sd div flag1 flag2)
  | .rqe pfix ident1 ident2 d rsvd ext flag1 flag2 => Variant.wf (.rqe pfix ident1 ident2 d rsvd ext flag1 flag2)
  | .rqr pfix ident1 info rsvd => Variant.wf (.rqr pfix ident1 info rsvd)
  | .rqq pfix ident1 ident2 status => Variant.wf (.rqq pfix ident1 ident2 status)
  | .rqc pfix ident1 ident2 slots ext flag1 flag2 => Variant.wf (.rqc pfix ident1 ident2 slots ext flag1 flag2)
  | .maint pfix ident1 chan oper rsvd spare => Variant.wf (.maint pfix ident1 chan oper rsvd spare)
  | .clear chan cont rsvd spare => Variant.wf (.clear chan cont rsvd spare)
  | .move pfix ident1 cont m2 rsvd spare => Variant.wf (.move pfix ident1 cont m2 rsvd spare)
  | .bcast sysdef p15 p18 => Variant.wf (.bcast sysdef p15 p18)
  | .bcastAnn sys chan spare rsvd => fits 15 sys && fits 10 chan && fits 2 spare && fits 6 rsvd
  | .bcastWdr sys chan spare rsvd => fits 15 sys && fits 10 chan && fits 2 spare && fits 6 rsvd
  | .bcastMaint sys per ival pon ident rsvd spare =>
    fits 15 sys && fits 1 per && fits 5 ival && fits 1 pon && fits 1 ident && fits 2 rsvd && fits 8 spare
  | .bcastReg sys rsvd spare => fits 15 sys && fits 4 rsvd && fits 14 spare
  | .bcastAdj sys chan spare rsvd adjsite =>
    fits 15 sys && fits 10 chan && fits 2 spare && fits 2 rsvd && fits 4 adjsite
  | .bcastVote sys chan spare rsvd adjsite =>
    fits 15 sys && fits 10 chan && fits 2 spare && fits 2 rsvd && fits 4 adjsite
  | .samis p1 p2 => Variant.wf (.samis p1 p2)
  | .traffic => true
  | .nop => true
  | .start => true
  | .stop => true
  | .enqCC it => it.wf
  | .enqTC it => it.wf
  | .setIdent _ => true
  | .txTick => true
  | .rxTick v => fits 48 v
  | .identDone => true
  | .fcs v => fits 48 v
  | .enc v => v.wf
  | .dec v => fits 48 v
  | .reset => true

end Sys2Proof
end

