-- ==== Sys2Proof/Decode.lean ====
section
/-! DEFINITION. The decoder from what the host puts before the block to an instruction, total and rejecting by name, and the
encoder. A codeword is read by the opcode map R69, a transaction by its code and operands (R72). The form of a request is the
model's (log 9): the spec gives the codeword words, the `TxOut` form (R75), the transaction codes and the operand records. -/

namespace Sys2Proof

/-- What the host puts before the block: one instruction, moved whole (R43). -/
inductive Request
  /-- A word of the transmit side in the form of R75: `kind (2) || data (48)`. TYPE 2 words read as the AHY family (R69). -/
  | slot (bits : BitVec 50)
  /-- A codeword as received from a radio unit. TYPE 2 words read as the RQ family (R69, R174). -/
  | heard (cw : Codeword)
  /-- A transaction code and its operand words, a record's fields in order (R72, R22). -/
  | transaction (code : BitVec 4) (operands : List Nat)
deriving DecidableEq, Repr

/-- Why a request is no instruction. Each is safe: the machine has no step for it and nothing is claimed of it (R253). -/
inductive Reject
  /-- A word with bit 47 clear that is no synchronisation codeword (R69: "otherwise not a codeword of this block"). -/
  | notACodeword (cw : Codeword)
  /-- An unassigned combination of `CAT`, `TYPE`, `FUNC` or `DESC` (R69, R70). -/
  | unassigned (cw : Codeword)
  /-- `TxOut` kind 0: no codeword at all (R75). -/
  | noCodeword
  /-- `TxOut` kind 3, reserved (R70, R75, U4). -/
  | reservedTxOutKind
  /-- Transaction codes 13 to 15, reserved (R70, R72, U4). -/
  | reservedTransaction (code : BitVec 4)
  /-- The operand words are not those of the transaction's operand type (R72). -/
  | operandShape (code : BitVec 4)
deriving DecidableEq, Repr

namespace Machine

/-! ### Codewords -/

/-- Format SYNC: told apart by the FCS only (R69). -/
def classifySync (x : Codeword) : Except Reject Instr :=
  if slice x 15 0 = preamble.toNat then
    if fcs x = SyncFamily.sync .ccsc then .ok (.ccsc (slice x 46 32))
    else if fcs x = SyncFamily.sync .dcsc then .ok (.dcsc (slice x 46 32))
    else .error (.notACodeword x)
  else .error (.notACodeword x)

/-- Format GTC (R62). -/
def classifyGtc (x : Codeword) : Instr :=
  .gtc (slice x 46 40) (slice x 39 27) (slice x 25 25) (slice x 24 15) (slice x 14 2) (slice x 1 0)

/-- TYPE 0, the ALH family; `FUNC` 7 is unassigned (R67, R69). -/
def classifyAlh (x : Codeword) : Except Reject Instr :=
  let pfix := slice x 46 40
  let ident1 := slice x 39 27
  let chan4 := slice x 17 14
  let wt := slice x 13 11
  let rsvd := slice x 10 9
  let m := slice x 8 4
  let n := slice x 3 0
  match slice x 20 18 with
  | 0 => .ok (.alh pfix ident1 chan4 wt rsvd m n)
  | 1 => .ok (.alhs pfix ident1 chan4 wt rsvd m n)
  | 2 => .ok (.alhd pfix ident1 chan4 wt rsvd m n)
  | 3 => .ok (.alhe pfix ident1 chan4 wt rsvd m n)
  | 4 => .ok (.alhr pfix ident1 chan4 wt rsvd m n)
  | 5 => .ok (.alhx pfix ident1 chan4 wt rsvd m n)
  | 6 => .ok (.alhf pfix ident1 chan4 wt rsvd m n)
  | _ => .error (.unassigned x)

/-- TYPE 1, the ACK family (R67, R69). -/
def classifyAck (x : Codeword) : Instr :=
  let pfix := slice x 46 40
  let ident1 := slice x 39 27
  let ident2 := slice x 17 5
  let qual := slice x 4 4
  let n := slice x 3 0
  match slice x 20 18 with
  | 0 => .ack pfix ident1 ident2 qual n
  | 1 => .acki pfix ident1 ident2 qual n
  | 2 => .ackq pfix ident1 ident2 qual n
  | 3 => .ackx pfix ident1 ident2 qual n
  | 4 => .ackv pfix ident1 ident2 qual n
  | 5 => .acke pfix ident1 ident2 qual n
  | 6 => .ackt pfix ident1 ident2 qual n
  | _ => .ackb pfix ident1 ident2 qual n

/-- TYPE 2: `FUNC` 0, 2, 6, 7 by the direction of the word, 3, 4, 5 a radio unit's, 1 unassigned (R67, R69, R174; log 10). -/
def classifyType2 (fromUnit : Bool) (x : Codeword) : Except Reject Instr :=
  let pfix := slice x 46 40
  let ident1 := slice x 39 27
  let ident2 := slice x 17 5
  let b4 := slice x 4 4
  let b3 := slice x 3 3
  let b2 := slice x 2 2
  let b1 := slice x 1 1
  let b0 := slice x 0 0
  match slice x 20 18 with
  | 0 => .ok (if fromUnit then .rqs pfix ident1 ident2 b4 b3 b2 b1 b0 else .ahy pfix ident1 ident2 b4 b3 b2 b1 b0)
  | 2 => .ok (if fromUnit then .rqx pfix ident1 ident2 (slice x 4 0) else .ahyx pfix ident1 ident2 (slice x 4 0))
  | 3 => .ok (.rqt pfix ident1 ident2 (slice x 4 3) b2 b1 b0)
  | 4 => .ok (.rqe pfix ident1 ident2 b4 b3 b2 b1 b0)
  | 5 => .ok (.rqr pfix ident1 (slice x 17 3) (slice x 2 0))
  | 6 => .ok (if fromUnit then .rqq pfix ident1 ident2 (slice x 4 0) else .ahyq pfix ident1 ident2 (slice x 4 0))
  | 7 => .ok (if fromUnit then .rqc pfix ident1 ident2 (slice x 4 3) b2 b1 b0
      else .ahyc pfix ident1 ident2 (slice x 4 3) (slice x 2 0))
  | _ => .error (.unassigned x)

/-- A broadcast word as the view its `SYSDEF` names, raw for 6 to 31 (R68; log 10). -/
def classifyBcast (x : Codeword) : Instr :=
  let sys := slice x 41 27
  let chan := slice x 17 8
  match slice x 46 42 with
  | 0 => .bcastAnn sys chan (slice x 7 6) (slice x 5 0)
  | 1 => .bcastWdr sys chan (slice x 7 6) (slice x 5 0)
  | 2 => .bcastMaint sys (slice x 17 17) (slice x 16 12) (slice x 11 11) (slice x 10 10) (slice x 9 8) (slice x 7 0)
  | 3 => .bcastReg sys (slice x 17 14) (slice x 13 0)
  | 4 => .bcastAdj sys chan (slice x 7 6) (slice x 5 4) (slice x 3 0)
  | 5 => .bcastVote sys chan (slice x 7 6) (slice x 5 4) (slice x 3 0)
  | sysdef => .bcast sysdef sys (slice x 17 0)

/-- TYPE 3: MAINT, CLEAR (with its fixed low 12 bits), MOVE, BCAST (R64, R65, R67, R69). -/
def classifyType3 (x : Codeword) : Except Reject Instr :=
  let pfix := slice x 46 40
  let ident1 := slice x 39 27
  match slice x 20 18 with
  | 1 => .ok (.maint pfix ident1 (slice x 17 8) (slice x 7 5) (slice x 4 3) (slice x 2 0))
  | 2 =>
    if slice x 11 0 = 0xAAA then .ok (.clear (slice x 46 37) (slice x 36 27) (slice x 17 14) (slice x 13 12))
    else .error (.unassigned x)
  | 3 => .ok (.move pfix ident1 (slice x 17 8) (slice x 7 6) (slice x 5 4) (slice x 3 0))
  | 4 => .ok (classifyBcast x)
  | _ => .error (.unassigned x)

/-- Category 0 by `TYPE` (R69). -/
def classifyCat0 (fromUnit : Bool) (x : Codeword) : Except Reject Instr :=
  match slice x 22 21 with
  | 0 => classifyAlh x
  | 1 => .ok (classifyAck x)
  | 2 => classifyType2 fromUnit x
  | _ => classifyType3 x

/-- The opcode map: every 48-bit word by its fixed bits (R69, R70). -/
def classify (fromUnit : Bool) (x : Codeword) : Except Reject Instr :=
  if slice x 47 47 = 0 then classifySync x
  else if slice x 26 26 = 0 then .ok (classifyGtc x)
  else match slice x 25 23 with
    | 0 => classifyCat0 fromUnit x
    | 1 => if slice x 22 20 = 0 then .ok (.samis (slice x 46 27) (slice x 19 0)) else .error (.unassigned x)
    | _ => .error (.unassigned x)

/-! ### Operand words -/

/-- An enable bit. -/
def bitOfWord : Nat → Option Bool
  | 0 => some false
  | 1 => some true
  | _ => none

/-- An enable bit as an operand word. -/
def wordOfBit (b : Bool) : Nat := if b then 1 else 0

/-- The `TxItem` operand: the six fields of R22 in its order, the order of R73 from the high end. -/
def itemOfWords : List Nat → Option ItemOperand
  | [cw, txcEn, txcTag, rlen, rxcEn, rxcTag] =>
    match bitOfWord txcEn, bitOfWord rxcEn with
    | some a, some b => some { cw := cw, txcEn := a, txcTag := txcTag, rlen := rlen, rxcEn := b, rxcTag := rxcTag }
    | _, _ => none
  | _ => none

/-- The `TxItem` operand as its six words. -/
def wordsOfItem (it : ItemOperand) : List Nat :=
  [it.cw, wordOfBit it.txcEn, it.txcTag, it.rlen, wordOfBit it.rxcEn, it.rxcTag]

/-- The `Payload` operand: one word per byte. -/
def payloadOfWords : List Nat → Option Payload
  | [] => some []
  | b :: rest => if b < 256 then (payloadOfWords rest).map (BitVec.ofNat 8 b :: ·) else none

/-- The `Payload` operand as its words. -/
def wordsOfPayload (p : Payload) : List Nat := p.map BitVec.toNat

/-- The `Variant` operand of ENC from its number in R110's list and its fields (log 9). -/
def variantOf (kind : Nat) (fields : List Nat) : Option Variant :=
  match kind, fields with
  | 0, [sys] => some (.ccsc sys)
  | 1, [sys] => some (.dcsc sys)
  | 2, [pfix, ident1, d, chan, ident2, n2] => some (.gtc pfix ident1 d chan ident2 n2)
  | 3, [func, pfix, ident1, chan4, wt, rsvd, m, n] => some (.alhFam func pfix ident1 chan4 wt rsvd m n)
  | 4, [func, pfix, ident1, ident2, qual, n] => some (.ackFam func pfix ident1 ident2 qual n)
  | 5, [pfix, ident1, ident2, d, point, check, e, ad] => some (.ahy pfix ident1 ident2 d point check e ad)
  | 6, [pfix, ident1, ident2, rsvd] => some (.ahyx pfix ident1 ident2 rsvd)
  | 7, [pfix, ident1, ident2, status] => some (.ahyq pfix ident1 ident2 status)
  | 8, [pfix, ident1, ident2, slots, desc] => some (.ahyc pfix ident1 ident2 slots desc)
  | 9, [pfix, ident1, ident2, dt, level, ext, flag1, flag2] =>
    some (.rqs pfix ident1 ident2 dt level ext flag1 flag2)
  | 10, [pfix, ident1, ident2, rsvd] => some (.rqx pfix ident1 ident2 rsvd)
  | 11, [pfix, ident1, ident2, sd, div, flag1, flag2] => some (.rqt pfix ident1 ident2 sd div flag1 flag2)
  | 12, [pfix, ident1, ident2, d, rsvd, ext, flag1, flag2] =>
    some (.rqe pfix ident1 ident2 d rsvd ext flag1 flag2)
  | 13, [pfix, ident1, info, rsvd] => some (.rqr pfix ident1 info rsvd)
  | 14, [pfix, ident1, ident2, status] => some (.rqq pfix ident1 ident2 status)
  | 15, [pfix, ident1, ident2, slots, ext, flag1, flag2] => some (.rqc pfix ident1 ident2 slots ext flag1 flag2)
  | 16, [pfix, ident1, chan, oper, rsvd, spare] => some (.maint pfix ident1 chan oper rsvd spare)
  | 17, [chan, cont, rsvd, spare] => some (.clear chan cont rsvd spare)
  | 18, [pfix, ident1, cont, m2, rsvd, spare] => some (.move pfix ident1 cont m2 rsvd spare)
  | 19, [sysdef, p15, p18] => some (.bcast sysdef p15 p18)
  | 20, [p1, p2] => some (.samis p1 p2)
  | _, _ => none

/-- The `Variant` operand of ENC from its words. -/
def variantOfWords : List Nat → Option Variant
  | [] => none
  | kind :: fields => variantOf kind fields

/-- The `Variant` operand of ENC as its words. -/
def wordsOfVariant : Variant → List Nat
  | .ccsc sys => [0, sys]
  | .dcsc sys => [1, sys]
  | .gtc pfix ident1 d chan ident2 n2 => [2, pfix, ident1, d, chan, ident2, n2]
  | .alhFam func pfix ident1 chan4 wt rsvd m n => [3, func, pfix, ident1, chan4, wt, rsvd, m, n]
  | .ackFam func pfix ident1 ident2 qual n => [4, func, pfix, ident1, ident2, qual, n]
  | .ahy pfix ident1 ident2 d point check e ad => [5, pfix, ident1, ident2, d, point, check, e, ad]
  | .ahyx pfix ident1 ident2 rsvd => [6, pfix, ident1, ident2, rsvd]
  | .ahyq pfix ident1 ident2 status => [7, pfix, ident1, ident2, status]
  | .ahyc pfix ident1 ident2 slots desc => [8, pfix, ident1, ident2, slots, desc]
  | .rqs pfix ident1 ident2 dt level ext flag1 flag2 => [9, pfix, ident1, ident2, dt, level, ext, flag1, flag2]
  | .rqx pfix ident1 ident2 rsvd => [10, pfix, ident1, ident2, rsvd]
  | .rqt pfix ident1 ident2 sd div flag1 flag2 => [11, pfix, ident1, ident2, sd, div, flag1, flag2]
  | .rqe pfix ident1 ident2 d rsvd ext flag1 flag2 => [12, pfix, ident1, ident2, d, rsvd, ext, flag1, flag2]
  | .rqr pfix ident1 info rsvd => [13, pfix, ident1, info, rsvd]
  | .rqq pfix ident1 ident2 status => [14, pfix, ident1, ident2, status]
  | .rqc pfix ident1 ident2 slots ext flag1 flag2 => [15, pfix, ident1, ident2, slots, ext, flag1, flag2]
  | .maint pfix ident1 chan oper rsvd spare => [16, pfix, ident1, chan, oper, rsvd, spare]
  | .clear chan cont rsvd spare => [17, chan, cont, rsvd, spare]
  | .move pfix ident1 cont m2 rsvd spare => [18, pfix, ident1, cont, m2, rsvd, spare]
  | .bcast sysdef p15 p18 => [19, sysdef, p15, p18]
  | .samis p1 p2 => [20, p1, p2]

/-! ### Transactions -/

/-- The operand words must be a value of the operand type. -/
def withOperand {α : Type} (code : BitVec 4) (o : Option α) (k : α → Instr) : Except Reject Instr :=
  match o with
  | some a => .ok (k a)
  | none => .error (.operandShape code)

/-- A transaction without operands. -/
def noOperand : List Nat → Option Unit
  | [] => some ()
  | _ => none

/-- One `u48` operand, given as a natural of any width (R42). -/
def oneWord : List Nat → Option Nat
  | [v] => some v
  | _ => none

/-- The transaction table R72; codes 13 to 15 are reserved. -/
def decodeTransaction (code : BitVec 4) (ws : List Nat) : Except Reject Instr :=
  match code.toNat with
  | 0 => withOperand code (noOperand ws) fun _ => .nop
  | 1 => withOperand code (noOperand ws) fun _ => .start
  | 2 => withOperand code (noOperand ws) fun _ => .stop
  | 3 => withOperand code (itemOfWords ws) .enqCC
  | 4 => withOperand code (itemOfWords ws) .enqTC
  | 5 => withOperand code (payloadOfWords ws) .setIdent
  | 6 => withOperand code (noOperand ws) fun _ => .txTick
  | 7 => withOperand code (oneWord ws) .rxTick
  | 8 => withOperand code (noOperand ws) fun _ => .identDone
  | 9 => withOperand code (oneWord ws) .fcs
  | 10 => withOperand code (variantOfWords ws) .enc
  | 11 => withOperand code (oneWord ws) .dec
  | 12 => withOperand code (noOperand ws) fun _ => .reset
  | _ => .error (.reservedTransaction code)

/-- A transmit-side word in the form of R75: kind 1 a codeword, kind 2 the TRAFFIC marker, kind 3 reserved. -/
def decodeSlot (bits : BitVec 50) : Except Reject Instr :=
  match bits.toNat / 2 ^ 48 with
  | 1 => classify false (mask48 bits.toNat)
  | 2 => .ok .traffic
  | 3 => .error .reservedTxOutKind
  | _ => .error .noCodeword

/-- The instruction decoder, total on every request. -/
def decodeRequest : Request → Except Reject Instr
  | .slot bits => decodeSlot bits
  | .heard cw => classify true cw
  | .transaction code ws => decodeTransaction code ws

/-! ### The encoder -/

/-- A codeword the block or its host sends, `TxOut` kind 1 (R75). -/
def sentRequest (v : Variant) : Request := .slot (1#2 ++ encode v)

/-- A codeword a radio unit sends. -/
def heardRequest (v : Variant) : Request := .heard (encode v)

/-- The request that carries an instruction: the variant's codeword (R110 to R153), the marker as `TxOut` kind 2 (R154,
R75), a transaction's code and operand (R72). -/
def encodeRequest : Instr → Request
  | .ccsc sys => sentRequest (.ccsc sys)
  | .dcsc sys => sentRequest (.dcsc sys)
  | .gtc pfix ident1 d chan ident2 n2 => sentRequest (.gtc pfix ident1 d chan ident2 n2)
  | .alh pfix ident1 chan4 wt rsvd m n => sentRequest (.alhFam 0 pfix ident1 chan4 wt rsvd m n)
  | .alhs pfix ident1 chan4 wt rsvd m n => sentRequest (.alhFam 1 pfix ident1 chan4 wt rsvd m n)
  | .alhd pfix ident1 chan4 wt rsvd m n => sentRequest (.alhFam 2 pfix ident1 chan4 wt rsvd m n)
  | .alhe pfix ident1 chan4 wt rsvd m n => sentRequest (.alhFam 3 pfix ident1 chan4 wt rsvd m n)
  | .alhr pfix ident1 chan4 wt rsvd m n => sentRequest (.alhFam 4 pfix ident1 chan4 wt rsvd m n)
  | .alhx pfix ident1 chan4 wt rsvd m n => sentRequest (.alhFam 5 pfix ident1 chan4 wt rsvd m n)
  | .alhf pfix ident1 chan4 wt rsvd m n => sentRequest (.alhFam 6 pfix ident1 chan4 wt rsvd m n)
  | .ack pfix ident1 ident2 qual n => sentRequest (.ackFam 0 pfix ident1 ident2 qual n)
  | .acki pfix ident1 ident2 qual n => sentRequest (.ackFam 1 pfix ident1 ident2 qual n)
  | .ackq pfix ident1 ident2 qual n => sentRequest (.ackFam 2 pfix ident1 ident2 qual n)
  | .ackx pfix ident1 ident2 qual n => sentRequest (.ackFam 3 pfix ident1 ident2 qual n)
  | .ackv pfix ident1 ident2 qual n => sentRequest (.ackFam 4 pfix ident1 ident2 qual n)
  | .acke pfix ident1 ident2 qual n => sentRequest (.ackFam 5 pfix ident1 ident2 qual n)
  | .ackt pfix ident1 ident2 qual n => sentRequest (.ackFam 6 pfix ident1 ident2 qual n)
  | .ackb pfix ident1 ident2 qual n => sentRequest (.ackFam 7 pfix ident1 ident2 qual n)
  | .ahy pfix ident1 ident2 d point check e ad => sentRequest (.ahy pfix ident1 ident2 d point check e ad)
  | .ahyx pfix ident1 ident2 rsvd => sentRequest (.ahyx pfix ident1 ident2 rsvd)
  | .ahyq pfix ident1 ident2 status => sentRequest (.ahyq pfix ident1 ident2 status)
  | .ahyc pfix ident1 ident2 slots desc => sentRequest (.ahyc pfix ident1 ident2 slots desc)
  | .rqs pfix ident1 ident2 dt level ext flag1 flag2 =>
    heardRequest (.rqs pfix ident1 ident2 dt level ext flag1 flag2)
  | .rqx pfix ident1 ident2 rsvd => heardRequest (.rqx pfix ident1 ident2 rsvd)
  | .rqt pfix ident1 ident2 sd div flag1 flag2 => heardRequest (.rqt pfix ident1 ident2 sd div flag1 flag2)
  | .rqe pfix ident1 ident2 d rsvd ext flag1 flag2 =>
    heardRequest (.rqe pfix ident1 ident2 d rsvd ext flag1 flag2)
  | .rqr pfix ident1 info rsvd => heardRequest (.rqr pfix ident1 info rsvd)
  | .rqq pfix ident1 ident2 status => heardRequest (.rqq pfix ident1 ident2 status)
  | .rqc pfix ident1 ident2 slots ext flag1 flag2 => heardRequest (.rqc pfix ident1 ident2 slots ext flag1 flag2)
  | .maint pfix ident1 chan oper rsvd spare => sentRequest (.maint pfix ident1 chan oper rsvd spare)
  | .clear chan cont rsvd spare => sentRequest (.clear chan cont rsvd spare)
  | .move pfix ident1 cont m2 rsvd spare => sentRequest (.move pfix ident1 cont m2 rsvd spare)
  | .bcast sysdef p15 p18 => sentRequest (.bcast sysdef p15 p18)
  | .bcastAnn sys chan spare rsvd => sentRequest (bcastAnn sys chan spare rsvd)
  | .bcastWdr sys chan spare rsvd => sentRequest (bcastWdr sys chan spare rsvd)
  | .bcastMaint sys per ival pon ident rsvd spare => sentRequest (bcastMaint sys per ival pon ident rsvd spare)
  | .bcastReg sys rsvd spare => sentRequest (bcastReg sys rsvd spare)
  | .bcastAdj sys chan spare rsvd adjsite => sentRequest (bcastAdj sys chan spare rsvd adjsite)
  | .bcastVote sys chan spare rsvd adjsite => sentRequest (bcastVote sys chan spare rsvd adjsite)
  | .samis p1 p2 => heardRequest (.samis p1 p2)
  | .traffic => .slot (2#2 ++ 0#48)
  | .nop => .transaction 0#4 []
  | .start => .transaction 1#4 []
  | .stop => .transaction 2#4 []
  | .enqCC it => .transaction 3#4 (wordsOfItem it)
  | .enqTC it => .transaction 4#4 (wordsOfItem it)
  | .setIdent p => .transaction 5#4 (wordsOfPayload p)
  | .txTick => .transaction 6#4 []
  | .rxTick v => .transaction 7#4 [v]
  | .identDone => .transaction 8#4 []
  | .fcs v => .transaction 9#4 [v]
  | .enc v => .transaction 10#4 (wordsOfVariant v)
  | .dec v => .transaction 11#4 [v]
  | .reset => .transaction 12#4 []

/-- The instruction a word stands for when a raw broadcast is named by its view: `BCAST` with `SYSDEF` 0 to 5 and the view
are one encoding (R68, R155 d). Every other instruction is itself. -/
def canonical : Instr → Instr
  | .bcast sysdef p15 p18 =>
    let chan := p18 / 2 ^ 8
    match sysdef with
    | 0 => .bcastAnn p15 chan (p18 / 2 ^ 6 % 4) (p18 % 64)
    | 1 => .bcastWdr p15 chan (p18 / 2 ^ 6 % 4) (p18 % 64)
    | 2 => .bcastMaint p15 (p18 / 2 ^ 17) (p18 / 2 ^ 12 % 32) (p18 / 2 ^ 11 % 2) (p18 / 2 ^ 10 % 2)
        (p18 / 2 ^ 8 % 4) (p18 % 256)
    | 3 => .bcastReg p15 (p18 / 2 ^ 14) (p18 % 2 ^ 14)
    | 4 => .bcastAdj p15 chan (p18 / 2 ^ 6 % 4) (p18 / 2 ^ 4 % 4) (p18 % 16)
    | 5 => .bcastVote p15 chan (p18 / 2 ^ 6 % 4) (p18 / 2 ^ 4 % 4) (p18 % 16)
    | k => .bcast k p15 p18
  | i => i

/-! ### The opcode table's words -/

/-- The operand words of zeros that follow a transaction's code in the opcode table (R72, R22). -/
def zeroOperands (code : Nat) : List Nat :=
  match code with
  | 3 => [0, 0, 0, 0, 0, 0]
  | 4 => [0, 0, 0, 0, 0, 0]
  | 7 => [0]
  | 9 => [0]
  | 10 => [0, 0]
  | 11 => [0]
  | _ => []

/-- The request that holds an opcode-table word: a codeword row has 48 bits, a transaction row the code in bits 3:0 of one
byte, the `TxOut` form of R75 50 bits. A codeword row is read as a received word (log 10). -/
def tableRequest (nbits w : Nat) : Option Request :=
  if 2 ^ nbits ≤ w then none
  else if nbits ≤ 8 then
    if w < 16 then some (.transaction (BitVec.ofNat 4 w) (zeroOperands w)) else none
  else if nbits ≤ 48 then some (.heard (mask48 w))
  else if w < 2 ^ 50 then some (.slot (BitVec.ofNat 50 w)) else none

end Machine

/-- The instruction the decoder reads from an opcode-table word. -/
def decodeTableWord (nbits w : Nat) : Option Instr :=
  match Machine.tableRequest nbits w with
  | some r =>
    match Machine.decodeRequest r with
    | .ok i => some i
    | .error _ => none
  | none => none

end Sys2Proof
end

