-- ==== Sys2Proof/Machine/Parameters.lean ====
section
/-! DEFINITION. The values of the configuration: the constants the source fixes (R5), the defaults of R6, the readings of
ALOHA_STEP (R217) and the well-known idents (R78). -/

namespace Sys2Proof.Machine

/-- `RXC_TIMEOUT`, the solicited-reply countdown in transmit ticks (R5). -/
def rxcTimeout : Nat := 4

/-- `ALOHA_STEP`, reading B, the default: `n` is the old value; 0 refills to 5, else decrement (R217, D9, C2; log 8). -/
def alohaB : Vector (Fin 6 × Fin 6) 6 := #v[(5, 0), (0, 1), (1, 2), (2, 3), (3, 4), (4, 5)]

/-- `ALOHA_STEP`, reading A: `n` is 5 at 0 and 0 otherwise; 0 goes to 4 (R217). -/
def alohaA : Vector (Fin 6 × Fin 6) 6 := #v[(4, 5), (0, 0), (1, 0), (2, 0), (3, 0), (4, 0)]

/-- `ALOHA_STEP`, reading B'': `n` is the old value; 0 and 1 go to 5 (R217). -/
def alohaB'' : Vector (Fin 6 × Fin 6) 6 := #v[(5, 0), (5, 1), (1, 2), (2, 3), (3, 4), (4, 5)]

/-- The configuration from its inputs without default, every other field at the default of R6 (`TRAFFIC_WIRE` is OPEN and
has none: log 11). -/
def defaultConfig (syscode : BitVec 15) (chan : BitVec 10) (chId : ChId) : Config :=
  { syscode := syscode
    chan := chan
    chId := chId
    initState := .beginFrame
    afReset := 0
    alohaStep := alohaB
    alhFunc := 0#3
    alhPfix := 0#7
    alhIdent1 := 0#13
    alhWt := 7#3
    alhRsvd := 0#2
    alhM := 0#5
    fillerCw := 0x800004400000#48
    trafficWire := []
    qdepth := none
    rlenMax := 255
    tagw := 16 }

/-- The configuration of the spec's own programs: `SYSCODE` = `0x4A89`, `CHAN` = 6, `CH_ID` = 1 (95_test_vectors.md).
DESIGN CHOICE, unsafe, log 7: the instance `State.reset` shows, since these three inputs have no default. -/
def referenceConfig : Config := defaultConfig 0x4A89#15 6#10 1

/-! ### Well-known idents (R78) -/

/-- The dummy / null ident. -/
def identDummy : Nat := 0
/-- Registration. -/
def identReg : Nat := 0x1FF9
/-- Include. -/
def identInc : Nat := 0x1FFA
/-- Divert. -/
def identDivert : Nat := 0x1FFB
/-- Short data message. -/
def identSdm : Nat := 0x1FFC
/-- Interprefix. -/
def identIpfix : Nat := 0x1FFD
/-- This controller. -/
def identTsc : Nat := 0x1FFE
/-- All-call. -/
def identAll : Nat := 0x1FFF
/-- General PSTN gateway. -/
def identPstn : Nat := 8101
/-- PABX gateway. -/
def identPabx : Nat := 8102

/-! ### Invitation numbers (R175, for information: no rule of the block reads them) -/

/-- The slots of a 2-bit invitation number. -/
def slotsOfN2 : Vector Nat 4 := #v[0, 1, 3, 6]

/-- The slots of a 4-bit invitation number (log 1 for its tail). -/
def slotsOfN4 : Vector Nat 16 := #v[0, 1, 2, 3, 4, 5, 6, 7, 8, 9, 10, 12, 15, 19, 25, 32]

end Sys2Proof.Machine
end

