-- ==== Sys2Proof/Machine/State.lean ====
section
/-! DEFINITION. The machine's state as plain data: every register of 10_state.md, the two queues, the configuration, and the
boundary with the host (its transactions and answers to come, the result and events of the last transaction). -/

namespace Sys2Proof.Machine

/-- The result of a transmit tick (R23). -/
inductive TxOut
  /-- `NONE`, nothing transmitted. -/
  | none
  /-- `CW(w)`, a codeword's wire-level encoding. -/
  | cw (w : Codeword)
  /-- `MARK`, the TRAFFIC marker, not a codeword. -/
  | mark
deriving DecidableEq, Repr

/-- One queued outbound codeword with its optional completions (R22). -/
structure TxItem where
  /-- The codeword to send, already encoded. -/
  cw : Codeword
  /-- A transmit-continuation was given. -/
  txcEn : Bool
  /-- Its tag, meaningful when `txcEn`. -/
  txcTag : Tag
  /-- The reply length; 0 means no receive-completion. -/
  rlen : Nat
  /-- A reply-continuation was given. -/
  rxcEn : Bool
  /-- Its tag, meaningful when `rxcEn`. -/
  rxcTag : Tag
deriving DecidableEq, Repr

/-- The solicited-reply collector (R19). -/
structure Collector where
  /-- Codewords still expected, 1 to `RLEN_MAX` while the record exists. -/
  remaining : Nat
  /-- The codewords so far, in arrival order. -/
  acc : List Codeword
  /-- The countdown in transmit ticks, 0 to 4. -/
  countdown : Nat
  /-- The item carried a reply-continuation. -/
  en : Bool
  /-- The reply-continuation's tag, meaningful when `en`. -/
  tag : Tag
deriving DecidableEq, Repr

/-- `status` of `EV_RXC` (R74). -/
inductive RxcStatus
  | success
  | timeout
deriving DecidableEq, Repr

/-- `dir` of `EV_FAULT` (R74). -/
inductive Dir
  | tx
  | rx
deriving DecidableEq, Repr

/-- The five events the block raises toward the host (R74, R255). -/
inductive Event
  /-- `EV_TXC(tag)`, the transmit-completion (R256). -/
  | txc (tag : Tag)
  /-- `EV_RXC(tag, status, cws)`, the receive-completion (R257). -/
  | rxc (tag : Tag) (status : RxcStatus) (cws : List Codeword)
  /-- `EV_RXFWD(ch, v)`, an unsolicited decoded codeword (R258). -/
  | rxfwd (ch : ChId) (v : Variant)
  /-- `EV_IDENT_START(p)`, the identification payload handed over (R259). -/
  | identStart (p : Payload)
  /-- `EV_FAULT(dir, cause)`, the report of the fault boundary (R260). -/
  | fault (dir : Dir) (cause : BitVec 8)
deriving DecidableEq, Repr

/-- The host's answer to `EV_TXC`: `ops`, and optionally `new_state` as a 3-bit code (R74, R262). -/
structure TxcAnswer where
  ops : List Instr
  newState : Option (BitVec 3)
deriving DecidableEq, Repr

/-- What a transaction returns (R72, column "result"). -/
inductive Result
  /-- The transaction returns nothing. -/
  | nothing
  /-- A transmit tick's `TxOut`, or the marker (log 3). -/
  | slot (out : TxOut)
  /-- The `u16` of FCS. -/
  | check (v : Check)
  /-- The `u48` of ENC and of a codeword row (log 2). -/
  | code (cw : Codeword)
  /-- The `Option Variant` of DEC. -/
  | variant (v : Option Variant)
deriving DecidableEq, Repr

/-- The state of one MPTCORE instance. -/
structure State where
  /-- The configuration, read only (R24; log 7). -/
  cfg : Config
  /-- `state`, the sequencer state, the block's only control-flow register (R11). -/
  state : SeqState
  /-- `af`, the Aloha frame counter, 0 to 5 (R12). -/
  af : Fin 6
  /-- `rsv`, the slot-reservation counter (R13). -/
  rsv : Nat
  /-- `running`, set between START and STOP (R14). -/
  running : Bool
  /-- `ident_pending` (R15). -/
  identPending : Option Payload
  /-- `txc_pending` (R16). -/
  txcPending : Option Tag
  /-- `rxc_next`, the staged reservation (R17). -/
  rxcNext : Option Collector
  /-- `rxc`, the outstanding receive-completion (R18). -/
  rxc : Option Collector
  /-- `last_tx` (R20). -/
  lastTx : TxOut
  /-- `ccq`, the control-channel queue, head first (R21). -/
  ccq : List TxItem
  /-- `tcq`, the traffic-channel queue, head first (R21). -/
  tcq : List TxItem
  /-- MODEL's own: the host's transactions not yet taken, in order (R47; log 4). -/
  inbox : List Request
  /-- MODEL's own: the host's answers to the `EV_TXC` events to come, in order (R262; log 5). -/
  txcAnswers : List TxcAnswer
  /-- MODEL's own: the host's answers to the `EV_RXC` and `EV_RXFWD` events to come, in order (R262; log 5). -/
  answers : List (List Instr)
  /-- MODEL's own: what the last transaction returned (log 6). -/
  result : Result
  /-- MODEL's own: the events the last transaction raised, in the order raised (log 6). -/
  events : List Event
deriving DecidableEq, Repr

/-- The faults that stop the machine: there are none. The one fault of the block is taken inside its tick and leaves it live
for the next transaction ("there are no fatal errors that should terminate the channel controller itself", R250, R254);
`State.takeFault` of Machine/Ops.lean takes it (log 15). -/
inductive Fault
deriving DecidableEq, Repr

/-- Why the machine has no step: what R253 calls refused, "outside the machine's step relation". Each is safe: nothing is
claimed of a host that does it. -/
inductive Refusal
  /-- Raised by an arm of `exec` whose instruction has no meaning; no arm is left so. Safe. -/
  | notModelled (mnemonic : String)
  /-- Raised by `step` where the next request is no instruction: a reserved transaction code, a reserved `TxOut` kind, an
  unassigned word (R69, R70, R72, R75). Safe. -/
  | undecodable (why : Reject)
  /-- Raised by a tick where a host answer holds an operation other than ENQ_CC, ENQ_TC, SET_IDENT (R200, U5). Safe. -/
  | notPermittedInAnswer
  /-- Raised by TX_TICK where the answer to `EV_TXC` overrides the state with 5, 6 or 7 (R212, R283, U3). Safe. -/
  | newStateOutOfRange (code : BitVec 3)
  /-- Raised by an enqueue on a full queue of a finite `QDEPTH` (R53, U6). Safe. -/
  | queueFull
  /-- Raised by an enqueue of an item the operand format cannot carry: `rlen` above `RLEN_MAX` (U17) or a tag wider than
  `TAGW` bits (R26; log 13). Safe. -/
  | itemNotRepresentable
deriving DecidableEq, Repr

/-- The reset table R30 for a configuration: the block just powered on, its host still silent. -/
def State.powerOn (c : Config) : State :=
  { cfg := c
    state := c.initState
    af := c.afReset
    rsv := 0
    running := false
    identPending := none
    txcPending := none
    rxcNext := none
    rxc := none
    lastTx := .none
    ccq := []
    tcq := []
    inbox := []
    txcAnswers := []
    answers := []
    result := .nothing
    events := [] }

/-- The machine right after reset (R30, R280), for the instance of `referenceConfig` (log 7). -/
def State.reset : State := State.powerOn referenceConfig

end Sys2Proof.Machine
end

