-- ==== Sys2Proof/Machine/Operands.lean ====
section
/-! DEFINITION. Operand forms: the item operand and its packed word, `TxOut` as bits, the codes of states and events. -/

namespace Sys2Proof

/-- The queued item of an enqueue operand: `cw` reduced to 48 bits, the rest moved whole (R42, R43, R194). -/
def ItemOperand.toItem (it : ItemOperand) : Machine.TxItem :=
  { cw := Machine.mask48 it.cw
    txcEn := it.txcEn
    txcTag := it.txcTag
    rlen := it.rlen
    rxcEn := it.rxcEn
    rxcTag := it.rxcTag }

/-- The pseudo-form `enq_cc <cw>` with no options (R77). -/
def ItemOperand.plain (cw : Nat) : ItemOperand :=
  { cw := cw, txcEn := false, txcTag := 0, rlen := 0, rxcEn := false, rxcTag := 0 }

/-- The bits of the packed item's `rlen` field: the fewest that hold `RLEN_MAX`, 8 for 255 (R73; log 20). -/
def Config.rlenWidth (c : Config) : Nat := Nat.log2 c.rlenMax + 1

/-- The item operand as one word, from the high end `cw txc_en txc_tag rlen rxc_en rxc_tag` (R73). -/
def ItemOperand.pack (it : ItemOperand) (c : Config) : Nat :=
  let w := it.cw % 2 ^ 48
  let w := w * 2 + it.txcEn.toNat
  let w := w * 2 ^ c.tagw + it.txcTag % 2 ^ c.tagw
  let w := w * 2 ^ c.rlenWidth + it.rlen % 2 ^ c.rlenWidth
  let w := w * 2 + it.rxcEn.toNat
  w * 2 ^ c.tagw + it.rxcTag % 2 ^ c.tagw

/-- The item operand from its packed word (R73). -/
def ItemOperand.unpack (c : Config) (w : Nat) : ItemOperand :=
  let w1 := w / 2 ^ c.tagw
  let w2 := w1 / 2
  let w3 := w2 / 2 ^ c.rlenWidth
  let w4 := w3 / 2 ^ c.tagw
  { cw := w4 / 2
    txcEn := decide (w4 % 2 = 1)
    txcTag := w3 % 2 ^ c.tagw
    rlen := w2 % 2 ^ c.rlenWidth
    rxcEn := decide (w1 % 2 = 1)
    rxcTag := w % 2 ^ c.tagw }

/-- The state's 3-bit code (R11). -/
def SeqState.code : SeqState → BitVec 3
  | .beginFrame => 0#3
  | .controlCodeword => 1#3
  | .trafficQuiescent => 2#3
  | .trafficCodeword => 3#3
  | .identInProgress => 4#3

/-- The state of a 3-bit code; 5, 6 and 7 name no state (R11, R283). -/
def SeqState.ofCode (b : BitVec 3) : Option SeqState :=
  match b.toNat with
  | 0 => some .beginFrame
  | 1 => some .controlCodeword
  | 2 => some .trafficQuiescent
  | 3 => some .trafficCodeword
  | 4 => some .identInProgress
  | _ => none

namespace Machine

/-- `TxOut` as bits: `kind (2) || data (48)`, data 0 for NONE and MARK (R75). -/
def TxOut.bits : TxOut → BitVec 50
  | .none => 0#2 ++ 0#48
  | .cw w => 1#2 ++ w
  | .mark => 2#2 ++ 0#48

/-- `TxOut` from its bits; data is ignored for NONE and MARK, kind 3 is reserved (R75). -/
def TxOut.ofBits (b : BitVec 50) : Option TxOut :=
  match b.toNat / 2 ^ 48 with
  | 0 => some .none
  | 1 => some (.cw (mask48 b.toNat))
  | 2 => some .mark
  | _ => none

/-- `status`: 0 SUCCESS, 1 TIMEOUT (R74). -/
def RxcStatus.code : RxcStatus → BitVec 1
  | .success => 0#1
  | .timeout => 1#1

/-- `dir`: 0 TX, 1 RX (R74). -/
def Dir.code : Dir → BitVec 1
  | .tx => 0#1
  | .rx => 1#1

/-- The event codes (R74). -/
def Event.code : Event → Nat
  | .txc _ => 1
  | .rxc _ _ _ => 2
  | .rxfwd _ _ => 3
  | .identStart _ => 4
  | .fault _ _ => 5

/-- `TQ_UNDERFLOW`, the one fault cause reachable under the spec's rules (R251). -/
def tqUnderflow : BitVec 8 := 1#8

end Machine

end Sys2Proof
end

