-- ==== Sys2Proof/Machine/Flags.lean ====
section
/-! DEFINITION. The block's flags (it has no condition codes, R27) and the status the host may read (R268). -/

namespace Sys2Proof.Machine

/-- "Reservation active" (R13, R27). -/
def State.reservationActive (s : State) : Bool := decide (0 < s.rsv)

/-- "Queue non-empty" (R27), the negation of `QEmpty` (R46). -/
def queueNonEmpty (q : List TxItem) : Bool := !q.isEmpty

/-- "At its start boundary": the Aloha frame counter is 0 (R215, D10). -/
def State.atStartBoundary (s : State) : Bool := decide (s.af = 0)

/-- A queue of a finite `QDEPTH` is full; an infinite one never is (R53; log 12). -/
def queueFull (c : Config) (q : List TxItem) : Bool :=
  match c.qdepth with
  | none => false
  | some d => decide (d ≤ q.length)

/-- The status the host may read between transactions, without side effect (R268). -/
structure Status where
  lastTx : TxOut
  running : Bool
  state : BitVec 3
  qlenCc : Nat
  qlenTc : Nat
deriving DecidableEq, Repr

/-- Reading the status (R268, R44). -/
def State.status (s : State) : Status :=
  { lastTx := s.lastTx
    running := s.running
    state := s.state.code
    qlenCc := s.ccq.length
    qlenTc := s.tcq.length }

end Sys2Proof.Machine
end

