-- ==== Sys2Proof/Machine/Ops.lean ====
section
/-! DEFINITION. The shared operations: the transaction's boundary, the queues, events and the host's answers, `Apply`, the
fault boundary, `Install` and reset. -/

namespace Sys2Proof.Machine

/-- The outcome of a step of this machine. -/
abbrev Answer := Host.Outcome State Fault Refusal

/-! ### The boundary of a transaction -/

/-- The start of a transaction: the ports of the one before are empty (R190; log 6). -/
def State.begin (s : State) : State := { s with result := .nothing, events := [] }

/-- A transaction that returns `r`, raises no event and writes no register. -/
def State.finish (s : State) (r : Result) : State := { s with result := r, events := [] }

/-- The end of a transaction that may be refused on the way. -/
def conclude : Except Refusal State → Answer
  | .ok s => .next s
  | .error r => .refused r

/-- `ENC` on a variant: the result is its 48-bit word, nothing else changes (R199, R44). The meaning of every codeword row
(log 2). -/
def answerCode (v : Variant) (s : State) : Answer := .next (s.finish (.code (encode v)))

/-! ### Queues and the identification payload (R46, R194 to R196) -/

/-- An item accepted into a queue of the current content `q` (R194; R53 and R73 for the two refusals). -/
def accept (c : Config) (q : List TxItem) (it : ItemOperand) : Except Refusal (List TxItem) :=
  if it.representable c then
    if queueFull c q then .error .queueFull else .ok (q ++ [it.toItem])
  else .error .itemNotRepresentable

/-- `QPush(ccq, it')` (R194). -/
def State.pushCC (s : State) (it : ItemOperand) : Except Refusal State :=
  match accept s.cfg s.ccq it with
  | .ok q => .ok { s with ccq := q }
  | .error r => .error r

/-- `QPush(tcq, it')` (R195). -/
def State.pushTC (s : State) (it : ItemOperand) : Except Refusal State :=
  match accept s.cfg s.tcq it with
  | .ok q => .ok { s with tcq := q }
  | .error r => .error r

/-- `ident_pending <- some p`; a payload already pending is overwritten (R196). -/
def State.setIdent (s : State) (p : Payload) : State := { s with identPending := some p }

/-! ### Events and the host's answers (R255, R262, R200) -/

/-- An event raised toward the host (R255). -/
def State.emit (s : State) (e : Event) : State := { s with events := s.events ++ [e] }

/-- One operation of an answer: ENQ_CC, ENQ_TC or SET_IDENT; every other instruction is refused (R200, U5; log 16). -/
def applyOp (s : State) : Instr → Except Refusal State
  | .enqCC it => s.pushCC it
  | .enqTC it => s.pushTC it
  | .setIdent p => .ok (s.setIdent p)
  | _ => .error .notPermittedInAnswer

/-- `Apply(resp.ops)`: the operations in list order, at the point of the event (R200). -/
def applyOps (s : State) : List Instr → Except Refusal State
  | [] => .ok s
  | op :: rest =>
    match applyOp s op with
    | .ok s' => applyOps s' rest
    | .error r => .error r

/-- The host's next answer to an `EV_TXC`; a host that has said nothing answers with nothing to do (R262; log 5). -/
def State.nextTxcAnswer (s : State) : TxcAnswer := s.txcAnswers.headD { ops := [], newState := none }

/-- The host's next answer to an `EV_RXC` or `EV_RXFWD` (R262; log 5). -/
def State.nextAnswer (s : State) : List Instr := s.answers.headD []

/-- `state <- s` where the answer overrides the state; 5, 6 and 7 are refused (R212, R283). -/
def State.override (s : State) : Option (BitVec 3) → Except Refusal State
  | none => .ok s
  | some b =>
    match SeqState.ofCode b with
    | some st => .ok { s with state := st }
    | none => .error (.newStateOutOfRange b)

/-- `resp <- emit EV_TXC(t); Apply(resp.ops)`, then the override (R212, R256). -/
def State.callTxc (s : State) (t : Tag) : Except Refusal State :=
  match applyOps { s.emit (.txc t) with txcAnswers := s.txcAnswers.tail } s.nextTxcAnswer.ops with
  | .ok s' => s'.override s.nextTxcAnswer.newState
  | .error r => .error r

/-- `resp <- emit e; Apply(resp.ops)` for `EV_RXC` and `EV_RXFWD` (R257, R258). -/
def State.call (s : State) (e : Event) : Except Refusal State :=
  applyOps { s.emit e with answers := s.answers.tail } s.nextAnswer

/-! ### The fault boundary (R252) -/

/-- Taking the tick fault: the writes already made stay, `EV_FAULT(dir, cause)` is emitted, a transmit tick returns NONE and
a receive tick nothing, `last_tx` is not written (R252). There is no return from it: nothing was saved, and the next
transaction is accepted normally (R254, R262; log 15). -/
def State.takeFault (s : State) (dir : Dir) (cause : BitVec 8) : State :=
  match dir with
  | .tx => { s.emit (.fault .tx cause) with result := .slot .none }
  | .rx => { s.emit (.fault .rx cause) with result := .nothing }

/-! ### Installing completions and reset -/

/-- The collector an item with a reply length stages (R19, R221). -/
def collectorOf (it : TxItem) : Collector :=
  { remaining := it.rlen, acc := [], countdown := rxcTimeout, en := it.rxcEn, tag := it.rxcTag }

/-- `Install(it)` (R221). -/
def State.install (s : State) (it : TxItem) : State :=
  let s := { s with txcPending := if it.txcEn then some it.txcTag else none }
  if 1 ≤ it.rlen then { s with rxcNext := some (collectorOf it), rsv := it.rlen } else s

/-- Every register at its reset value, the configuration kept, no event (R202, R280). -/
def State.resetRegisters (s : State) : State :=
  { s with
    state := s.cfg.initState
    af := s.cfg.afReset
    rsv := 0
    running := false
    identPending := none
    txcPending := none
    rxcNext := none
    rxc := none
    lastTx := .none
    ccq := []
    tcq := [] }

end Sys2Proof.Machine
end

