-- ==== Sys2Proof/Machine/Acks.lean ====
section
/-! DEFINITION. The ACK family as instructions: `ACKfam` with `FUNC` 0 to 7 (R122 to R130; log 2). -/

namespace Sys2Proof.Machine

/-- ACK: general acknowledgement (R123). -/
def execAck (pfix ident1 ident2 qual n : Nat) (s : State) : Answer :=
  answerCode (.ackFam 0 pfix ident1 ident2 qual n) s

/-- ACKI: intermediate acknowledgement (R124). -/
def execAcki (pfix ident1 ident2 qual n : Nat) (s : State) : Answer :=
  answerCode (.ackFam 1 pfix ident1 ident2 qual n) s

/-- ACKQ: call queued (R125). -/
def execAckq (pfix ident1 ident2 qual n : Nat) (s : State) : Answer :=
  answerCode (.ackFam 2 pfix ident1 ident2 qual n) s

/-- ACKX: message rejected (R126). -/
def execAckx (pfix ident1 ident2 qual n : Nat) (s : State) : Answer :=
  answerCode (.ackFam 3 pfix ident1 ident2 qual n) s

/-- ACKV: called unit unavailable (R127). -/
def execAckv (pfix ident1 ident2 qual n : Nat) (s : State) : Answer :=
  answerCode (.ackFam 4 pfix ident1 ident2 qual n) s

/-- ACKE: emergency call acknowledged (R128). -/
def execAcke (pfix ident1 ident2 qual n : Nat) (s : State) : Answer :=
  answerCode (.ackFam 5 pfix ident1 ident2 qual n) s

/-- ACKT: try on given address (R129). -/
def execAckt (pfix ident1 ident2 qual n : Nat) (s : State) : Answer :=
  answerCode (.ackFam 6 pfix ident1 ident2 qual n) s

/-- ACKB: call-back / negative acknowledgement (R130). -/
def execAckb (pfix ident1 ident2 qual n : Nat) (s : State) : Answer :=
  answerCode (.ackFam 7 pfix ident1 ident2 qual n) s

end Sys2Proof.Machine
end

