-- ==== Sys2Proof/Machine/Ahoy.lean ====
section
/-! DEFINITION. The AHY family, TYPE 2 as sent by the TSC, as instructions (R131 to R135; log 2). -/

namespace Sys2Proof.Machine

/-- AHY: general availability check; all fields 0 is the default filler (R132). -/
def execAhy (pfix ident1 ident2 d point check e ad : Nat) (s : State) : Answer :=
  answerCode (.ahy pfix ident1 ident2 d point check e ad) s

/-- AHYX: cancel alert / waiting state (R133). -/
def execAhyx (pfix ident1 ident2 rsvd : Nat) (s : State) : Answer := answerCode (.ahyx pfix ident1 ident2 rsvd) s

/-- AHYQ: status message to a unit (R134). -/
def execAhyq (pfix ident1 ident2 status : Nat) (s : State) : Answer := answerCode (.ahyq pfix ident1 ident2 status) s

/-- AHYC: short-data invitation (R135). -/
def execAhyc (pfix ident1 ident2 slots desc : Nat) (s : State) : Answer :=
  answerCode (.ahyc pfix ident1 ident2 slots desc) s

end Sys2Proof.Machine
end

