-- ==== Sys2Proof/Machine/Aloha.lean ====
section
/-! DEFINITION. The ALH family as instructions: `ALHfam` with `FUNC` 0 to 6 (R114 to R121; log 2). -/

namespace Sys2Proof.Machine

/-- ALH: general Aloha invitation (R115). -/
def execAlh (pfix ident1 chan4 wt rsvd m n : Nat) (s : State) : Answer :=
  answerCode (.alhFam 0 pfix ident1 chan4 wt rsvd m n) s

/-- ALHS: invitation excluding RQD (R116). -/
def execAlhs (pfix ident1 chan4 wt rsvd m n : Nat) (s : State) : Answer :=
  answerCode (.alhFam 1 pfix ident1 chan4 wt rsvd m n) s

/-- ALHD: invitation excluding RQS (R117). -/
def execAlhd (pfix ident1 chan4 wt rsvd m n : Nat) (s : State) : Answer :=
  answerCode (.alhFam 2 pfix ident1 chan4 wt rsvd m n) s

/-- ALHE: emergency requests only (R118). -/
def execAlhe (pfix ident1 chan4 wt rsvd m n : Nat) (s : State) : Answer :=
  answerCode (.alhFam 3 pfix ident1 chan4 wt rsvd m n) s

/-- ALHR: registration or emergency only (R119). -/
def execAlhr (pfix ident1 chan4 wt rsvd m n : Nat) (s : State) : Answer :=
  answerCode (.alhFam 4 pfix ident1 chan4 wt rsvd m n) s

/-- ALHX: invitation excluding RQR (R120). -/
def execAlhx (pfix ident1 chan4 wt rsvd m n : Nat) (s : State) : Answer :=
  answerCode (.alhFam 5 pfix ident1 chan4 wt rsvd m n) s

/-- ALHF: fall-back mode invitation (R121). -/
def execAlhf (pfix ident1 chan4 wt rsvd m n : Nat) (s : State) : Answer :=
  answerCode (.alhFam 6 pfix ident1 chan4 wt rsvd m n) s

end Sys2Proof.Machine
end

