-- ==== Sys2Proof/Machine/Control.lean ====
section
/-! DEFINITION. TYPE 3, category 1 and the TRAFFIC marker as instructions (R143 to R154; logs 2 and 3). -/

namespace Sys2Proof.Machine

/-- MAINT: call maintenance message (R143). -/
def execMaint (pfix ident1 chan oper rsvd spare : Nat) (s : State) : Answer :=
  answerCode (.maint pfix ident1 chan oper rsvd spare) s

/-- CLEAR: clear down a traffic channel (R144). -/
def execClear (chan cont rsvd spare : Nat) (s : State) : Answer := answerCode (.clear chan cont rsvd spare) s

/-- MOVE: move to a control channel (R145). -/
def execMove (pfix ident1 cont m2 rsvd spare : Nat) (s : State) : Answer :=
  answerCode (.move pfix ident1 cont m2 rsvd spare) s

/-- BCAST: the one broadcast variant, raw (R146). -/
def execBcast (sysdef p15 p18 : Nat) (s : State) : Answer := answerCode (.bcast sysdef p15 p18) s

/-- BCAST_ANN: announce control channel (R147). -/
def execBcastAnn (sys chan spare rsvd : Nat) (s : State) : Answer := answerCode (bcastAnn sys chan spare rsvd) s

/-- BCAST_WDR: withdraw control channel (R148). -/
def execBcastWdr (sys chan spare rsvd : Nat) (s : State) : Answer := answerCode (bcastWdr sys chan spare rsvd) s

/-- BCAST_MAINT: call maintenance parameters (R149). -/
def execBcastMaint (sys per ival pon ident rsvd spare : Nat) (s : State) : Answer :=
  answerCode (bcastMaint sys per ival pon ident rsvd spare) s

/-- BCAST_REG: registration parameters (R150). -/
def execBcastReg (sys rsvd spare : Nat) (s : State) : Answer := answerCode (bcastReg sys rsvd spare) s

/-- BCAST_ADJ: adjacent-site control channel (R151). -/
def execBcastAdj (sys chan spare rsvd adjsite : Nat) (s : State) : Answer :=
  answerCode (bcastAdj sys chan spare rsvd adjsite) s

/-- BCAST_VOTE: vote-now advice (R152). -/
def execBcastVote (sys chan spare rsvd adjsite : Nat) (s : State) : Answer :=
  answerCode (bcastVote sys chan spare rsvd adjsite) s

/-- SAMIS: single address message, inbound solicited (R153). -/
def execSamis (p1 p2 : Nat) (s : State) : Answer := answerCode (.samis p1 p2) s

/-- TRAFFIC: the marker, no codeword; its form is the `TxOut` MARK (R154; log 3). -/
def execTraffic (s : State) : Answer := .next (s.finish (.slot .mark))

end Sys2Proof.Machine
end

