-- ==== Sys2Proof/Machine/HostOps.lean ====
section
/-! DEFINITION. The host transactions other than the two ticks (43_host_ops.md). -/

namespace Sys2Proof.Machine

/-- NOP: no result, no state change, no event (R191). -/
def execNop (s : State) : Answer := .next s.begin

/-- START: `running <- 1`, nothing else (R192). -/
def execStart (s : State) : Answer := .next { s.begin with running := true }

/-- STOP: `running <- 0`, nothing else; pending completions stay pending (R193). -/
def execStop (s : State) : Answer := .next { s.begin with running := false }

/-- ENQ_CC: append to the control queue (R194). -/
def execEnqCC (it : ItemOperand) (s : State) : Answer := conclude (s.begin.pushCC it)

/-- ENQ_TC: append to the traffic queue (R195). -/
def execEnqTC (it : ItemOperand) (s : State) : Answer := conclude (s.begin.pushTC it)

/-- SET_IDENT: the one-shot identification payload (R196). -/
def execSetIdent (p : Payload) (s : State) : Answer := .next (s.begin.setIdent p)

/-- IDENT_DONE: `state <- 0`, unconditionally (R197). -/
def execIdentDone (s : State) : Answer := .next { s.begin with state := .beginFrame }

/-- FCS: `fcs(mask_48(v))`, pure (R198). -/
def execFcs (v : Nat) (s : State) : Answer := .next (s.finish (.check (fcs (mask48 v))))

/-- ENC: `encode(v)`, pure (R199). -/
def execEnc (v : Variant) (s : State) : Answer := answerCode v s

/-- DEC: `decode(mask_48(v))`, pure (R201). -/
def execDec (v : Nat) (s : State) : Answer := .next (s.finish (.variant (decode (mask48 v))))

/-- RESET: every register at its reset value; pending completions are dropped without being invoked (R202, R280). -/
def execReset (s : State) : Answer := .next s.begin.resetRegisters

end Sys2Proof.Machine
end

