-- ==== Sys2Proof/Machine/Requests.lean ====
section
/-! DEFINITION. The RQ family, TYPE 2 as sent by a radio unit, as instructions (R136 to R142; log 2). -/

namespace Sys2Proof.Machine

/-- RQS: simple call request (R136). -/
def execRqs (pfix ident1 ident2 dt level ext flag1 flag2 : Nat) (s : State) : Answer :=
  answerCode (.rqs pfix ident1 ident2 dt level ext flag1 flag2) s

/-- RQX: request to cancel / abort (R137). -/
def execRqx (pfix ident1 ident2 rsvd : Nat) (s : State) : Answer := answerCode (.rqx pfix ident1 ident2 rsvd) s

/-- RQT: request to divert calls (R138). -/
def execRqt (pfix ident1 ident2 sd div flag1 flag2 : Nat) (s : State) : Answer :=
  answerCode (.rqt pfix ident1 ident2 sd div flag1 flag2) s

/-- RQE: emergency call request (R139). -/
def execRqe (pfix ident1 ident2 d rsvd ext flag1 flag2 : Nat) (s : State) : Answer :=
  answerCode (.rqe pfix ident1 ident2 d rsvd ext flag1 flag2) s

/-- RQR: registration request, without `IDENT2` (R140). -/
def execRqr (pfix ident1 info rsvd : Nat) (s : State) : Answer := answerCode (.rqr pfix ident1 info rsvd) s

/-- RQQ: status request / status message from a unit (R141). -/
def execRqq (pfix ident1 ident2 status : Nat) (s : State) : Answer := answerCode (.rqq pfix ident1 ident2 status) s

/-- RQC: request to send short data (R142). -/
def execRqc (pfix ident1 ident2 slots ext flag1 flag2 : Nat) (s : State) : Answer :=
  answerCode (.rqc pfix ident1 ident2 slots ext flag1 flag2) s

end Sys2Proof.Machine
end

