-- ==== Sys2Proof/Machine/RxTick.lean ====
section
/-! DEFINITION. The receive tick (45_rx_tick.md). Under the spec's rules it cannot fault (R244 d; log 15). -/

namespace Sys2Proof.Machine

/-- Collector path: append, restart the countdown, count down the remaining; the last one clears the slot and then delivers
the whole sequence if a continuation was given (R242). -/
def State.collect (s : State) (c : Collector) (cw : Codeword) : Except Refusal State :=
  let c := { c with acc := c.acc ++ [cw], countdown := rxcTimeout, remaining := c.remaining - 1 }
  if c.remaining = 0 then
    if c.en then State.call { s with rxc := none } (.rxc c.tag .success c.acc) else .ok { s with rxc := none }
  else .ok { s with rxc := some c }

/-- Decode path: everything `decode` returns is forwarded, the rest dropped silently (R243). -/
def State.forward (s : State) (cw : Codeword) : Except Refusal State :=
  match decode cw with
  | none => .ok s
  | some d => s.call (.rxfwd s.cfg.chId d)

/-- The ungated receive tick (R242, R243). -/
def State.receive (s : State) (cw : Codeword) : Except Refusal State :=
  match s.rxc with
  | some c => s.collect c cw
  | none => s.forward cw

/-- RX_TICK: the gate, normalisation to 48 bits, then one of the two paths (R240 to R243). -/
def execRxTick (v : Nat) (s : State) : Answer :=
  if s.running then conclude (s.begin.receive (mask48 v)) else .next s.begin

end Sys2Proof.Machine
end

