-- ==== Sys2Proof/Machine/Sync.lean ====
section
/-! DEFINITION. The synchronisation codewords CCSC and DCSC and the go-to-channel word as instructions (R111 to R113; log 2). -/

namespace Sys2Proof.Machine

/-- CCSC (R111). -/
def execCcsc (sys : Nat) (s : State) : Answer := answerCode (.ccsc sys) s

/-- DCSC (R112). -/
def execDcsc (sys : Nat) (s : State) : Answer := answerCode (.dcsc sys) s

/-- GTC (R113). -/
def execGtc (pfix ident1 d chan ident2 n2 : Nat) (s : State) : Answer :=
  answerCode (.gtc pfix ident1 d chan ident2 n2) s

end Sys2Proof.Machine
end

