-- ==== Sys2Proof/Machine/TxTick.lean ====
section
/-! DEFINITION. The transmit tick (44_tx_tick.md). -/

namespace Sys2Proof.Machine

/-! ### Steps 1 to 3 -/

/-- Step 1, transmit-completion: the slot is cleared, then the event raised, its operations applied and the state overridden
(R212). -/
def State.step1 (s : State) : Except Refusal State :=
  match s.txcPending with
  | none => .ok s
  | some t => State.callTxc { s with txcPending := none } t

/-- Step 2, arming: the staged reservation moves into the slot, over whatever it held (R213). -/
def State.step2 (s : State) : State :=
  match s.rxcNext with
  | none => s
  | some c => { s with rxc := some c, rxcNext := none }

/-- The countdown reached zero: the slot is cleared, then the timeout delivered if a continuation was given (R214). -/
def State.timeOut (s : State) (c : Collector) : Except Refusal State :=
  if c.en then State.call { s with rxc := none } (.rxc c.tag .timeout []) else .ok { s with rxc := none }

/-- Step 3, receive timeout (R214; log 14 for a countdown of 0, which no reachable state holds). -/
def State.step3 (s : State) : Except Refusal State :=
  match s.rxc with
  | none => .ok s
  | some c =>
    if c.countdown - 1 = 0 then s.timeOut c
    else .ok { s with rxc := some { c with countdown := c.countdown - 1 } }

/-! ### Step 4, by state -/

/-- What step 4 gives: the slot's output, or a fault raised on the way with the writes already made. -/
inductive Slot
  | sent (out : TxOut) (s : State)
  | raised (cause : BitVec 8) (s : State)
deriving DecidableEq, Repr

/-- State 0: start the identification at the frame boundary, else a CCSC (R215). -/
def State.state0 (s : State) : Slot :=
  match s.identPending with
  | some p =>
    if s.atStartBoundary then
      .sent .none ({ s with identPending := none, state := .identInProgress }.emit (.identStart p))
    else .sent (.cw (syncCW s.cfg.syscode .ccsc)) { s with state := .controlCodeword }
  | none => .sent (.cw (syncCW s.cfg.syscode .ccsc)) { s with state := .controlCodeword }

/-- `ALOHA_STEP(af)`: the new counter and the captured `n` (R217). -/
def State.alohaStep (s : State) : Fin 6 × Fin 6 := s.cfg.alohaStep.get s.af

/-- `IDLE_ALH(n)` (R77). -/
def idleAlh (c : Config) (n : Nat) : Codeword :=
  alhWord c.alhFunc.toNat c.alhPfix.toNat c.alhIdent1.toNat c.chan.toNat c.alhWt.toNat c.alhRsvd.toNat c.alhM.toNat n

/-- State 1 (b) and (c): the control queue, else the idle Aloha invitation carrying `n` (R216). -/
def State.serveControl (s : State) (n : Fin 6) : Slot :=
  match s.ccq with
  | it :: rest => .sent (.cw it.cw) (State.install { s with ccq := rest } it)
  | [] => .sent (.cw (idleAlh s.cfg n.val)) s

/-- State 1: the Aloha counter steps on every tick; a reservation still active after its decrement sends the filler and
leaves the queue alone (R216). -/
def State.state1 (s : State) : Slot :=
  let n := s.alohaStep.2
  let s := { s with state := .beginFrame, af := s.alohaStep.1 }
  if s.reservationActive then
    let s := { s with rsv := s.rsv - 1 }
    if s.reservationActive then .sent (.cw s.cfg.fillerCw) s else s.serveControl n
  else s.serveControl n

/-- State 2: the frame counter is reset; the marker if traffic is queued, else silence (R218). -/
def State.state2 (s : State) : Slot :=
  let s := { s with af := 0 }
  if queueNonEmpty s.tcq then .sent .mark { s with state := .trafficCodeword } else .sent .none s

/-- State 3: back to state 2 first, then one traffic item, or the fault TQ_UNDERFLOW (R219, R251). -/
def State.state3 (s : State) : Slot :=
  let s := { s with state := .trafficQuiescent }
  match s.tcq with
  | it :: rest => .sent (.cw it.cw) (State.install { s with tcq := rest } it)
  | [] => .raised tqUnderflow s

/-- Step 4, the dispatch on the state as it is after step 1; state 4 does nothing (R210, R220). -/
def State.step4 (s : State) : Slot :=
  match s.state with
  | .beginFrame => s.state0
  | .controlCodeword => s.state1
  | .trafficQuiescent => s.state2
  | .trafficCodeword => s.state3
  | .identInProgress => .sent .none s

/-- Step 5, recording and returning the output, or the fault boundary (R222, R252). -/
def Slot.close : Slot → State
  | .sent out s => { s with lastTx := out, result := .slot out }
  | .raised cause s => s.takeFault .tx cause

/-- The ungated tick: steps 1 to 5 in order (R210). -/
def State.tick (s : State) : Except Refusal State :=
  match s.step1 with
  | .error r => .error r
  | .ok s1 =>
    match s1.step2.step3 with
    | .error r => .error r
    | .ok s3 => .ok s3.step4.close

/-- TX_TICK: the gate, then the tick (R210, R211). -/
def execTxTick (s : State) : Answer :=
  if s.running then conclude s.begin.tick else .next (s.finish (.slot .none))

end Sys2Proof.Machine
end

