-- ==== Sys2Proof/Machine/Dispatch.lean ====
section
/-! DEFINITION. The dispatch: one arm per constructor of Instr, each one direct call of its meaning. -/

namespace Sys2Proof.Machine

def exec (i : Instr) (s : State) : Host.Outcome State Fault Refusal :=
  match i with
  | .ccsc sys => Sys2Proof.Machine.execCcsc sys s
  | .dcsc sys => Sys2Proof.Machine.execDcsc sys s
  | .gtc pfix ident1 d chan ident2 n2 => Sys2Proof.Machine.execGtc pfix ident1 d chan ident2 n2 s
  | .alh pfix ident1 chan4 wt rsvd m n => Sys2Proof.Machine.execAlh pfix ident1 chan4 wt rsvd m n s
  | .alhs pfix ident1 chan4 wt rsvd m n => Sys2Proof.Machine.execAlhs pfix ident1 chan4 wt rsvd m n s
  | .alhd pfix ident1 chan4 wt rsvd m n => Sys2Proof.Machine.execAlhd pfix ident1 chan4 wt rsvd m n s
  | .alhe pfix ident1 chan4 wt rsvd m n => Sys2Proof.Machine.execAlhe pfix ident1 chan4 wt rsvd m n s
  | .alhr pfix ident1 chan4 wt rsvd m n => Sys2Proof.Machine.execAlhr pfix ident1 chan4 wt rsvd m n s
  | .alhx pfix ident1 chan4 wt rsvd m n => Sys2Proof.Machine.execAlhx pfix ident1 chan4 wt rsvd m n s
  | .alhf pfix ident1 chan4 wt rsvd m n => Sys2Proof.Machine.execAlhf pfix ident1 chan4 wt rsvd m n s
  | .ack pfix ident1 ident2 qual n => Sys2Proof.Machine.execAck pfix ident1 ident2 qual n s
  | .acki pfix ident1 ident2 qual n => Sys2Proof.Machine.execAcki pfix ident1 ident2 qual n s
  | .ackq pfix ident1 ident2 qual n => Sys2Proof.Machine.execAckq pfix ident1 ident2 qual n s
  | .ackx pfix ident1 ident2 qual n => Sys2Proof.Machine.execAckx pfix ident1 ident2 qual n s
  | .ackv pfix ident1 ident2 qual n => Sys2Proof.Machine.execAckv pfix ident1 ident2 qual n s
  | .acke pfix ident1 ident2 qual n => Sys2Proof.Machine.execAcke pfix ident1 ident2 qual n s
  | .ackt pfix ident1 ident2 qual n => Sys2Proof.Machine.execAckt pfix ident1 ident2 qual n s
  | .ackb pfix ident1 ident2 qual n => Sys2Proof.Machine.execAckb pfix ident1 ident2 qual n s
  | .ahy pfix ident1 ident2 d point check e ad => Sys2Proof.Machine.execAhy pfix ident1 ident2 d point check e ad s
  | .ahyx pfix ident1 ident2 rsvd => Sys2Proof.Machine.execAhyx pfix ident1 ident2 rsvd s
  | .ahyq pfix ident1 ident2 status => Sys2Proof.Machine.execAhyq pfix ident1 ident2 status s
  | .ahyc pfix ident1 ident2 slots desc => Sys2Proof.Machine.execAhyc pfix ident1 ident2 slots desc s
  | .rqs pfix ident1 ident2 dt level ext flag1 flag2 => Sys2Proof.Machine.execRqs pfix ident1 ident2 dt level ext flag1 flag2 s
  | .rqx pfix ident1 ident2 rsvd => Sys2Proof.Machine.execRqx pfix ident1 ident2 rsvd s
  | .rqt pfix ident1 ident2 sd div flag1 flag2 => Sys2Proof.Machine.execRqt pfix ident1 ident2 sd div flag1 flag2 s
  | .rqe pfix ident1 ident2 d rsvd ext flag1 flag2 => Sys2Proof.Machine.execRqe pfix ident1 ident2 d rsvd ext flag1 flag2 s
  | .rqr pfix ident1 info rsvd => Sys2Proof.Machine.execRqr pfix ident1 info rsvd s
  | .rqq pfix ident1 ident2 status => Sys2Proof.Machine.execRqq pfix ident1 ident2 status s
  | .rqc pfix ident1 ident2 slots ext flag1 flag2 => Sys2Proof.Machine.execRqc pfix ident1 ident2 slots ext flag1 flag2 s
  | .maint pfix ident1 chan oper rsvd spare => Sys2Proof.Machine.execMaint pfix ident1 chan oper rsvd spare s
  | .clear chan cont rsvd spare => Sys2Proof.Machine.execClear chan cont rsvd spare s
  | .move pfix ident1 cont m2 rsvd spare => Sys2Proof.Machine.execMove pfix ident1 cont m2 rsvd spare s
  | .bcast sysdef p15 p18 => Sys2Proof.Machine.execBcast sysdef p15 p18 s
  | .bcastAnn sys chan spare rsvd => Sys2Proof.Machine.execBcastAnn sys chan spare rsvd s
  | .bcastWdr sys chan spare rsvd => Sys2Proof.Machine.execBcastWdr sys chan spare rsvd s
  | .bcastMaint sys per ival pon ident rsvd spare => Sys2Proof.Machine.execBcastMaint sys per ival pon ident rsvd spare s
  | .bcastReg sys rsvd spare => Sys2Proof.Machine.execBcastReg sys rsvd spare s
  | .bcastAdj sys chan spare rsvd adjsite => Sys2Proof.Machine.execBcastAdj sys chan spare rsvd adjsite s
  | .bcastVote sys chan spare rsvd adjsite => Sys2Proof.Machine.execBcastVote sys chan spare rsvd adjsite s
  | .samis p1 p2 => Sys2Proof.Machine.execSamis p1 p2 s
  | .traffic => Sys2Proof.Machine.execTraffic s
  | .nop => Sys2Proof.Machine.execNop s
  | .start => Sys2Proof.Machine.execStart s
  | .stop => Sys2Proof.Machine.execStop s
  | .enqCC it => Sys2Proof.Machine.execEnqCC it s
  | .enqTC it => Sys2Proof.Machine.execEnqTC it s
  | .setIdent p => Sys2Proof.Machine.execSetIdent p s
  | .txTick => Sys2Proof.Machine.execTxTick s
  | .rxTick v => Sys2Proof.Machine.execRxTick v s
  | .identDone => Sys2Proof.Machine.execIdentDone s
  | .fcs v => Sys2Proof.Machine.execFcs v s
  | .enc v => Sys2Proof.Machine.execEnc v s
  | .dec v => Sys2Proof.Machine.execDec v s
  | .reset => Sys2Proof.Machine.execReset s

end Sys2Proof.Machine
end

