-- ==== Sys2Proof/Machine/Step.lean ====
section
/-! DEFINITION. One step: the block takes the host's next transaction and performs it whole (R47, R190). -/

namespace Sys2Proof.Machine

/-- The block takes the next transaction of `inbox`, decodes it and executes it; with none issued it idles, unchanged
(R47; log 4). A request that is no instruction is refused (R70, R253). -/
def step (s : State) : Host.Outcome State Fault Refusal :=
  match s.inbox with
  | [] => .next s
  | r :: rest =>
    match decodeRequest r with
    | .ok i => exec i { s with inbox := rest }
    | .error why => .refused (.undecodable why)

/-- The host issues the opcode-table word as the very next transaction (log 4). A word that is no request leaves the state
alone. -/
def State.withFetchWord (s : State) (nbits w : Nat) : State :=
  match tableRequest nbits w with
  | some r => { s with inbox := r :: s.inbox }
  | none => s

end Sys2Proof.Machine
end

