-- ==== Sys2Proof/Safety.lean ====
section
/-! DEFINITION. What counts as a good state and a legal host: the invariants of R29 and the host duties of
70_reset_and_hazards.md, in the terms the statements use. -/

namespace Sys2Proof.Machine

/-- A tag the configuration can carry (R26). -/
abbrev TagFits (c : Config) (t : Tag) : Prop := t < 2 ^ c.tagw

/-- A queued item the operand format can carry (R22, R73). -/
structure TxItem.Fits (c : Config) (it : TxItem) : Prop where
  reply : it.rlen ≤ c.rlenMax
  txcTag : TagFits c it.txcTag
  rxcTag : TagFits c it.rxcTag

/-- An outstanding collector of a reachable state (R19, R29). -/
structure Collector.Live (c : Config) (k : Collector) : Prop where
  remaining : 1 ≤ k.remaining
  counting : 1 ≤ k.countdown
  window : k.countdown ≤ rxcTimeout
  length : k.acc.length + k.remaining ≤ c.rlenMax
  tag : TagFits c k.tag

/-- A staged collector of a reachable state (R29). -/
structure Collector.Staged (c : Config) (k : Collector) : Prop where
  fresh : k.acc = []
  full : k.countdown = rxcTimeout
  remaining : 1 ≤ k.remaining
  length : k.remaining ≤ c.rlenMax
  tag : TagFits c k.tag

/-- The invariants of R29 (that `state` is in 0..4 and `af` in 0..5 the types say), with what the operand format bounds
(R13, R22, R53) and that a staged reservation is the reservation counter's (R221). -/
structure State.Inv (s : State) : Prop where
  outstanding : ∀ k, s.rxc = some k → Collector.Live s.cfg k
  staged : ∀ k, s.rxcNext = some k → Collector.Staged s.cfg k ∧ s.rsv = k.remaining
  reservation : s.rsv ≤ s.cfg.rlenMax
  pendingTag : ∀ t, s.txcPending = some t → TagFits s.cfg t
  controlItems : ∀ it ∈ s.ccq, TxItem.Fits s.cfg it
  trafficItems : ∀ it ∈ s.tcq, TxItem.Fits s.cfg it
  depth : ∀ d, s.cfg.qdepth = some d → s.ccq.length ≤ d ∧ s.tcq.length ≤ d

/-- An operation an answer may carry: ENQ_CC, ENQ_TC, SET_IDENT (R200). -/
def opPermitted : Instr → Bool
  | .enqCC _ => true
  | .enqTC _ => true
  | .setIdent _ => true
  | _ => false

/-- An instruction whose item, if it enqueues one, the operand format can carry (U17; log 13). -/
def operandLegal (c : Config) : Instr → Bool
  | .enqCC it => it.representable c
  | .enqTC it => it.representable c
  | _ => true

/-- The operations of a legal answer (R200). -/
def opsLegal (c : Config) (ops : List Instr) : Bool := ops.all fun op => opPermitted op && operandLegal c op

/-- An override to a state that exists (R283). -/
def overrideLegal : Option (BitVec 3) → Bool
  | none => true
  | some b => decide (b.toNat < 5)

/-- The host's answers to come keep its duties, and the queues are the unbounded ones of the model (R53, R200, R283). -/
structure State.AnswersLegal (s : State) : Prop where
  unbounded : s.cfg.qdepth = none
  txc : ∀ a ∈ s.txcAnswers, opsLegal s.cfg a.ops = true ∧ overrideLegal a.newState = true
  other : ∀ ops ∈ s.answers, opsLegal s.cfg ops = true

/-- The host keeps its duties: legal answers, and every transaction issued is one (R253, R282). -/
structure State.HostLegal (s : State) : Prop where
  answers : s.AnswersLegal
  inbox : ∀ r ∈ s.inbox, ∃ i, decodeRequest r = .ok i ∧ operandLegal s.cfg i = true

/-- A running block with no completion pending, staged or outstanding: steps 1 to 3 of its next tick do nothing (R212 to
R214). -/
structure State.Quiet (s : State) : Prop where
  running : s.running = true
  txcPending : s.txcPending = none
  rxcNext : s.rxcNext = none
  rxc : s.rxc = none

/-- The traffic pair of states {2, 3}, against the control pair with identification {0, 1, 4} (R223). -/
def isTraffic : SeqState → Bool
  | .beginFrame => false
  | .controlCodeword => false
  | .trafficQuiescent => true
  | .trafficCodeword => true
  | .identInProgress => false

/-- An answer whose state raised `es` before the events it shows. -/
def withEarlierEvents (es : List Event) : Answer → Answer
  | .next t => .next { t with events := es ++ t.events }
  | .fault f => .fault f
  | .refused r => .refused r

/-- The next state of an answer, if there is one. -/
def nextState? : Answer → Option State
  | .next t => some t
  | .fault _ => none
  | .refused _ => none

end Sys2Proof.Machine
end

