-- ==== Sys2Proof/Certificates/Slice0/Vocabulary.lean ====
section
/-! DEFINITION. The vocabulary of the statements: the packing expressions of 41_codec_encode.md as the rules write them, the
match and mask of every codeword row of spec/opcode_table.json, and the tables of R92 and R96. -/

namespace Sys2Proof.Spec

open Sys2Proof.Machine

/-- `HDR(PFIX, IDENT1, TYPE, FUNC)` of R110. -/
def hdr (pfix ident1 type func : Nat) : Nat :=
  1 <<< 47 ||| mask 7 pfix <<< 40 ||| mask 13 ident1 <<< 27 ||| 1 <<< 26 ||| 0 <<< 23 ||| type <<< 21 ||| func <<< 18

/-- `ALHfam` of R114. -/
def alhFam (func pfix ident1 chan4 wt rsvd m n : Nat) : Nat :=
  hdr pfix ident1 0 func ||| mask 4 chan4 <<< 14 ||| mask 3 wt <<< 11 ||| mask 2 rsvd <<< 9 ||| mask 5 m <<< 4
    ||| mask 4 n

/-- `ACKfam` of R122. -/
def ackFam (func pfix ident1 ident2 qual n : Nat) : Nat :=
  hdr pfix ident1 1 func ||| mask 13 ident2 <<< 5 ||| mask 1 qual <<< 4 ||| mask 4 n

/-- `T2` of R131. -/
def t2 (func pfix ident1 p : Nat) : Nat := hdr pfix ident1 2 func ||| p

/-- The raw broadcast of R146. -/
def bcast (sysdef p15 p18 : Nat) : Nat :=
  1 <<< 47 ||| mask 5 sysdef <<< 42 ||| mask 15 p15 <<< 27 ||| 1 <<< 26 ||| 0 <<< 23 ||| 3 <<< 21 ||| 4 <<< 18
    ||| mask 18 p18

/-- `SAMIS` of R153. -/
def samis (p1 p2 : Nat) : Nat :=
  1 <<< 47 ||| mask 20 p1 <<< 27 ||| 1 <<< 26 ||| 1 <<< 23 ||| 0 <<< 20 ||| mask 20 p2

/-- The packing expression of every variant but the two synchronisation codewords (R113 to R153). -/
def packed : Variant → Option Nat
  | .ccsc _ => none
  | .dcsc _ => none
  | .gtc pfix ident1 d chan ident2 n2 =>
    some (1 <<< 47 ||| mask 7 pfix <<< 40 ||| mask 13 ident1 <<< 27 ||| 0 <<< 26 ||| mask 1 d <<< 25
      ||| mask 10 chan <<< 15 ||| mask 13 ident2 <<< 2 ||| mask 2 n2)
  | .alhFam func pfix ident1 chan4 wt rsvd m n => some (alhFam (mask 3 func) pfix ident1 chan4 wt rsvd m n)
  | .ackFam func pfix ident1 ident2 qual n => some (ackFam (mask 3 func) pfix ident1 ident2 qual n)
  | .ahy pfix ident1 ident2 d point check e ad =>
    some (t2 0 pfix ident1 (mask 13 ident2 <<< 5 ||| mask 1 d <<< 4 ||| mask 1 point <<< 3 ||| mask 1 check <<< 2
      ||| mask 1 e <<< 1 ||| mask 1 ad))
  | .ahyx pfix ident1 ident2 rsvd => some (t2 2 pfix ident1 (mask 13 ident2 <<< 5 ||| mask 5 rsvd))
  | .ahyq pfix ident1 ident2 status => some (t2 6 pfix ident1 (mask 13 ident2 <<< 5 ||| mask 5 status))
  | .ahyc pfix ident1 ident2 slots desc =>
    some (t2 7 pfix ident1 (mask 13 ident2 <<< 5 ||| mask 2 slots <<< 3 ||| mask 3 desc))
  | .rqs pfix ident1 ident2 dt level ext flag1 flag2 =>
    some (t2 0 pfix ident1 (mask 13 ident2 <<< 5 ||| mask 1 dt <<< 4 ||| mask 1 level <<< 3 ||| mask 1 ext <<< 2
      ||| mask 1 flag1 <<< 1 ||| mask 1 flag2))
  | .rqx pfix ident1 ident2 rsvd => some (t2 2 pfix ident1 (mask 13 ident2 <<< 5 ||| mask 5 rsvd))
  | .rqt pfix ident1 ident2 sd div flag1 flag2 =>
    some (t2 3 pfix ident1 (mask 13 ident2 <<< 5 ||| mask 2 sd <<< 3 ||| mask 1 div <<< 2 ||| mask 1 flag1 <<< 1
      ||| mask 1 flag2))
  | .rqe pfix ident1 ident2 d rsvd ext flag1 flag2 =>
    some (t2 4 pfix ident1 (mask 13 ident2 <<< 5 ||| mask 1 d <<< 4 ||| mask 1 rsvd <<< 3 ||| mask 1 ext <<< 2
      ||| mask 1 flag1 <<< 1 ||| mask 1 flag2))
  | .rqr pfix ident1 info rsvd => some (t2 5 pfix ident1 (mask 15 info <<< 3 ||| mask 3 rsvd))
  | .rqq pfix ident1 ident2 status => some (t2 6 pfix ident1 (mask 13 ident2 <<< 5 ||| mask 5 status))
  | .rqc pfix ident1 ident2 slots ext flag1 flag2 =>
    some (t2 7 pfix ident1 (mask 13 ident2 <<< 5 ||| mask 2 slots <<< 3 ||| mask 1 ext <<< 2 ||| mask 1 flag1 <<< 1
      ||| mask 1 flag2))
  | .maint pfix ident1 chan oper rsvd spare =>
    some (hdr pfix ident1 3 1 ||| mask 10 chan <<< 8 ||| mask 3 oper <<< 5 ||| mask 2 rsvd <<< 3 ||| mask 3 spare)
  | .clear chan cont rsvd spare =>
    some (1 <<< 47 ||| mask 10 chan <<< 37 ||| mask 10 cont <<< 27 ||| 1 <<< 26 ||| 0 <<< 23 ||| 3 <<< 21 ||| 2 <<< 18
      ||| mask 4 rsvd <<< 14 ||| mask 2 spare <<< 12 ||| 0xAAA)
  | .move pfix ident1 cont m2 rsvd spare =>
    some (hdr pfix ident1 3 3 ||| mask 10 cont <<< 8 ||| mask 2 m2 <<< 6 ||| mask 2 rsvd <<< 4 ||| mask 4 spare)
  | .bcast sysdef p15 p18 => some (bcast sysdef p15 p18)
  | .samis p1 p2 => some (samis p1 p2)

/-- In every state the instruction answers a next state: the result is the codeword of value `n`, no event is raised, and
every register, queue and input is unchanged. -/
def AnswersWord (i : Instr) (n : Nat) : Prop :=
  ∃ w : Codeword, w.toNat = n ∧ ∀ s : State, exec i s = .next { s with result := .code w, events := [] }

/-- In every state the instruction answers `SyncCW(sys, fam)`, of format SYNC (R61) and with the family's synchronisation word
as its FCS, and changes nothing else. -/
def AnswersSync (i : Instr) (sys : Nat) (fam : SyncFamily) (sync : Check) : Prop :=
  ∃ w : Codeword, w = syncCW (BitVec.ofNat 15 sys) fam ∧
    slice w 47 47 = 0 ∧ slice w 46 32 = mask 15 sys ∧ slice w 15 0 = 0xAAAA ∧ fcs w = sync ∧
    ∀ s : State, exec i s = .next { s with result := .code w, events := [] }

/-- The match and the mask of the codeword rows of spec/opcode_table.json. -/
def tableRow : Instr → Option (Codeword × Codeword)
  | .ccsc .. => some (0x00000000AAAA, 0x80000000FFFF)
  | .dcsc .. => some (0x00000000AAAA, 0x80000000FFFF)
  | .gtc .. => some (0x800000000000, 0x800004000000)
  | .alh .. => some (0x800004000000, 0x800007FC0000)
  | .alhs .. => some (0x800004040000, 0x800007FC0000)
  | .alhd .. => some (0x800004080000, 0x800007FC0000)
  | .alhe .. => some (0x8000040C0000, 0x800007FC0000)
  | .alhr .. => some (0x800004100000, 0x800007FC0000)
  | .alhx .. => some (0x800004140000, 0x800007FC0000)
  | .alhf .. => some (0x800004180000, 0x800007FC0000)
  | .ack .. => some (0x800004200000, 0x800007FC0000)
  | .acki .. => some (0x800004240000, 0x800007FC0000)
  | .ackq .. => some (0x800004280000, 0x800007FC0000)
  | .ackx .. => some (0x8000042C0000, 0x800007FC0000)
  | .ackv .. => some (0x800004300000, 0x800007FC0000)
  | .acke .. => some (0x800004340000, 0x800007FC0000)
  | .ackt .. => some (0x800004380000, 0x800007FC0000)
  | .ackb .. => some (0x8000043C0000, 0x800007FC0000)
  | .ahy .. => some (0x800004400000, 0x800007FC0000)
  | .ahyx .. => some (0x800004480000, 0x800007FC0000)
  | .ahyq .. => some (0x800004580000, 0x800007FC0000)
  | .ahyc .. => some (0x8000045C0000, 0x800007FC0000)
  | .rqs .. => some (0x800004400000, 0x800007FC0000)
  | .rqx .. => some (0x800004480000, 0x800007FC0000)
  | .rqt .. => some (0x8000044C0000, 0x800007FC0000)
  | .rqe .. => some (0x800004500000, 0x800007FC0000)
  | .rqr .. => some (0x800004540000, 0x800007FC0000)
  | .rqq .. => some (0x800004580000, 0x800007FC0000)
  | .rqc .. => some (0x8000045C0000, 0x800007FC0000)
  | .maint .. => some (0x800004640000, 0x800007FC0000)
  | .clear .. => some (0x800004680AAA, 0x800007FC0FFF)
  | .move .. => some (0x8000046C0000, 0x800007FC0000)
  | .bcast .. => some (0x800004700000, 0x800007FC0000)
  | .bcastAnn .. => some (0x800004700000, 0xFC0007FC0000)
  | .bcastWdr .. => some (0x840004700000, 0xFC0007FC0000)
  | .bcastMaint .. => some (0x880004700000, 0xFC0007FC0000)
  | .bcastReg .. => some (0x8C0004700000, 0xFC0007FC0000)
  | .bcastAdj .. => some (0x900004700000, 0xFC0007FC0000)
  | .bcastVote .. => some (0x940004700000, 0xFC0007FC0000)
  | .samis .. => some (0x800004800000, 0x800007F00000)
  | .traffic | .nop | .start | .stop | .enqCC _ | .enqTC _ | .setIdent _ | .txTick | .rxTick _ | .identDone | .fcs _
  | .enc _ | .dec _ | .reset => none

/-- The table `T[k]` of R92 (b). -/
def fcsTable : List Check :=
  [0xD02B, 0x707E, 0xE0FC, 0x11D3, 0x23A5, 0x4749, 0x8E91, 0xCD0A, 0x4A3F, 0x947D, 0xF8D2, 0x218F,
   0x431D, 0x8639, 0xDC5A, 0x689F, 0xD13D, 0x7252, 0xE4A4, 0x1963, 0x32C5, 0x6589, 0xCB11, 0x460A,
   0x8C14, 0xC803, 0x402E, 0x805C, 0xD093, 0x710E, 0xE21C, 0x1413, 0x2825, 0x5049, 0xA091, 0x910A,
   0xF23F, 0x3456, 0x68AC, 0xD158, 0x729B, 0xE535, 0x1A42, 0x3484, 0x6908, 0xD210, 0x740B, 0xE815]

/-- The table `B[k]` of R96. -/
def completionTable : List (BitVec 16) :=
  [0x383F, 0x707E, 0xE0FC, 0xF9C7, 0xCBB1, 0xAF5D, 0x6685, 0xCD0A, 0xA22B, 0x7C69, 0xF8D2, 0xC99B,
   0xAB09, 0x6E2D, 0xDC5A]

/-- The exclusive or of the table entries whose bit is set, bit `k` with entry `k`. -/
def xorWhere (bit : Nat → Bool) : Nat → List (BitVec 16) → BitVec 16
  | _, [] => 0
  | k, t :: rest => (if bit k then t else 0) ^^^ xorWhere bit (k + 1) rest

/-- `BASE[fam]` of R96. -/
def completionBase : SyncFamily → BitVec 16
  | .ccsc => 0x1151
  | .dcsc => 0x524B

/-- The pairs of R131: a word of the transmit side and of a radio unit that coincide. -/
def SameWordPair : Variant → Variant → Prop
  | .ahy pfix ident1 ident2 a b c d e, .rqs pfix' ident1' ident2' a' b' c' d' e' =>
    pfix = pfix' ∧ ident1 = ident1' ∧ ident2 = ident2' ∧ a = a' ∧ b = b' ∧ c = c' ∧ d = d' ∧ e = e'
  | .ahyx pfix ident1 ident2 r, .rqx pfix' ident1' ident2' r' =>
    pfix = pfix' ∧ ident1 = ident1' ∧ ident2 = ident2' ∧ r = r'
  | .ahyq pfix ident1 ident2 r, .rqq pfix' ident1' ident2' r' =>
    pfix = pfix' ∧ ident1 = ident1' ∧ ident2 = ident2' ∧ r = r'
  | .ahyc pfix ident1 ident2 slots desc, .rqc pfix' ident1' ident2' slots' ext flag1 flag2 =>
    pfix = pfix' ∧ ident1 = ident1' ∧ ident2 = ident2' ∧ slots = slots' ∧ desc = 4 * ext + 2 * flag1 + flag2
  | _, _ => False

/-- The items an answer enqueues on the control queue, in order (R200). -/
def controlItems : List Instr → List TxItem
  | [] => []
  | .enqCC it :: rest => it.toItem :: controlItems rest
  | _ :: rest => controlItems rest

/-- The items an answer enqueues on the traffic queue, in order (R200). -/
def trafficItems : List Instr → List TxItem
  | [] => []
  | .enqTC it :: rest => it.toItem :: trafficItems rest
  | _ :: rest => trafficItems rest

/-- The identification payload after an answer: the last one set, else the one there was (R196, R200). -/
def identAfter : Option Payload → List Instr → Option Payload
  | p, [] => p
  | _, .setIdent q :: rest => identAfter (some q) rest
  | p, _ :: rest => identAfter p rest

/-- The state step 4 of a running tick dispatches on: the override in the answer to `EV_TXC` if a completion is pending and
the answer carries one, else the register (R210, R212). -/
def dispatchState (s : State) : SeqState :=
  match s.txcPending, s.nextTxcAnswer.newState.bind SeqState.ofCode with
  | some _, some st => st
  | _, _ => s.state

/-- The collector that step 3 of a running tick counts down: the staged one, else the outstanding one (R213, R214). -/
def countedCollector (s : State) : Option Collector := s.rxcNext.or s.rxc

/-- The counted collector has a countdown of at least 1, as in every reachable state (R29); what a countdown of 0 would do is
the model's choice (log 14). -/
def CountdownLive (s : State) : Prop := ∀ k, countedCollector s = some k → 1 ≤ k.countdown

/-- The operations a running tick applies before step 4, in order: those of the answer to `EV_TXC` if a completion is pending,
then those of the answer to the timeout if the counted collector is in its last tick and has a continuation (R212, R214). -/
def earlierOps (s : State) : List Instr :=
  (if s.txcPending.isSome then s.nextTxcAnswer.ops else []) ++
    (if (countedCollector s).any (fun k => decide (k.countdown = 1) && k.en) then s.nextAnswer else [])

/-- What a sent item leaves in the completion slots, from the state `s` whose queue it has left (R221). -/
def withCompletionsOf (it : TxItem) (s : State) : State :=
  { s with
    txcPending := if it.txcEn = true then some it.txcTag else none
    rxcNext := if 1 ≤ it.rlen then
        some { remaining := it.rlen, acc := [], countdown := 4, en := it.rxcEn, tag := it.rxcTag }
      else s.rxcNext
    rsv := if 1 ≤ it.rlen then it.rlen else s.rsv }

/-- The end of a tick that sends `out` and raises no further event (R222). -/
def sending (out : TxOut) (s : State) : State := { s with lastTx := out, result := .slot out, events := [] }

end Sys2Proof.Spec
end

