-- ==== Sys2Proof/Certificates/Slice0/Obligations.lean ====
section
/-! DEFINITION. The statements for the provers, each a `def Obligations.<Name> : Prop`; OBLIGATIONS.json lists them. -/

open Sys2Proof Sys2Proof.Machine Sys2Proof.Spec

/-! ### The step, the decoder and the encodings -/

/-- A step takes the head of the host's transactions and executes the instruction it decodes to on the state without it; a
request that is no instruction is refused; with none issued the state is unchanged (the model's form of R47, log 4). -/
def Obligations.StepRunsTheDecodedTransaction : Prop :=
  (∀ (s : State) (r : Request) (rest : List Request) (i : Instr),
    s.inbox = r :: rest → decodeRequest r = .ok i → step s = exec i { s with inbox := rest }) ∧
  (∀ (s : State) (r : Request) (rest : List Request) (why : Reject),
    s.inbox = r :: rest → decodeRequest r = .error why → step s = .refused (.undecodable why)) ∧
  (∀ s : State, s.inbox = [] → step s = .next s)

/-- One word of each family, written out from 30_encoding.md, reads as its instruction. -/
def Obligations.WordsOfEachFamilyDecode : Prop :=
  decodeTableWord 48 0x4A89740BAAAA = some (.ccsc 0x4A89) ∧
  decodeTableWord 48 0x810320128320 = some (.gtc 1 100 0 37 200 0) ∧
  decodeTableWord 48 0x80000401B805 = some (.alh 0 0 6 7 0 0 5) ∧
  decodeTableWord 48 0x8A544C2BFF20 = some (.ackq 10 2697 8185 0 0) ∧
  decodeRequest (.slot (1#2 ++ 0x8A544C43FFCC#48)) = .ok (.ahy 10 2697 8190 0 1 1 0 0) ∧
  decodeTableWord 48 0x8A544C500C84 = some (.rqe 10 2697 100 0 0 1 0 0) ∧
  decodeTableWord 48 0x84A034680AAA = some (.clear 37 6 0 0) ∧
  decodeTableWord 48 0x8A544C720409 = some (.bcastMaint 0x4A89 1 0 0 1 0 9) ∧
  decodeTableWord 48 0x891A2C86789A = some (.samis 0x12345 0x6789A) ∧
  decodeTableWord 8 6 = some .txTick

/-- Transaction codes 13 to 15 and `TxOut` kind 3 are refused by name, whatever else the request holds (the form of a
request is the model's, log 9). -/
def Obligations.ReservedRequestsAreRefused : Prop :=
  (∀ (s : State) (code : BitVec 4) (ws : List Nat) (rest : List Request),
    s.inbox = .transaction code ws :: rest → 13 ≤ code.toNat →
    step s = .refused (.undecodable (.reservedTransaction code))) ∧
  (∀ (s : State) (data : Codeword) (rest : List Request),
    s.inbox = .slot (3#2 ++ data) :: rest → step s = .refused (.undecodable .reservedTxOutKind))

/-- Decoding the request that carries a well-formed instruction gives the instruction back, every operand with it; a raw
broadcast of `SYSDEF` 0 to 5 comes back as the view that names it. -/
def Obligations.DecodeOfEncodeIsTheInstruction : Prop :=
  ∀ i : Instr, i.wf = true → decodeRequest (encodeRequest i) = .ok (canonical i)

/-- The words of the codeword rows meet the match and mask of spec/opcode_table.json whatever the field values: every row
answers a codeword in every state, and no field value changes a fixed bit. -/
def Obligations.CodewordRowsMatchTheOpcodeTable : Prop :=
  ∀ (i : Instr) (m k : Codeword), tableRow i = some (m, k) →
    ∃ w : Codeword, w &&& k = m ∧ ∀ s : State, exec i s = .next { s with result := .code w, events := [] }

/-- `TxOut` as bits: kind over data, data 0 for NONE and MARK, kind 3 no `TxOut`; reading the bits gives the value back and
ignores the data of NONE and MARK. -/
def Obligations.TxOutBitsRoundTrip : Prop :=
  (∀ o : TxOut, TxOut.ofBits o.bits = some o) ∧
  TxOut.none.bits = 0 ∧ TxOut.mark.bits.toNat = 2 <<< 48 ∧ (∀ w : Codeword, (TxOut.cw w).bits.toNat = 1 <<< 48 ||| w.toNat) ∧
  (∀ data : Codeword, TxOut.ofBits (0#2 ++ data) = some .none ∧ TxOut.ofBits (1#2 ++ data) = some (.cw data) ∧
    TxOut.ofBits (2#2 ++ data) = some .mark ∧ TxOut.ofBits (3#2 ++ data) = none)

/-- The packed item operand with `RLEN_MAX` = 255 and any `TAGW`: the six fields from the high end, `cw` first; unpacking gives
every such item back; with `TAGW` = 16 the word has 90 bits. -/
def Obligations.PackedItemRoundTrips : Prop :=
  ∀ (c : Config) (it : ItemOperand), c.rlenMax = 255 → it.wf = true → it.representable c = true →
    it.pack c = it.cw <<< (2 * c.tagw + 10) ||| it.txcEn.toNat <<< (2 * c.tagw + 9) ||| it.txcTag <<< (c.tagw + 9)
      ||| it.rlen <<< (c.tagw + 1) ||| it.rxcEn.toNat <<< c.tagw ||| it.rxcTag ∧
    ItemOperand.unpack c (it.pack c) = it ∧
    (c.tagw = 16 → it.pack c < 2 ^ 90)

/-! ### The FCS engine and the synchronisation codewords -/

/-- The FCS is affine over GF(2), and is the exclusive or of `0x0003` with the table entries `T[k]` of the set bits. -/
def Obligations.FcsIsAffineWithTheTable : Prop :=
  (∀ a b : Codeword, fcs (a ^^^ b) = fcs a ^^^ fcs b ^^^ 0x0003) ∧
  (∀ cw : Codeword, fcs cw = 0x0003 ^^^ xorWhere cw.getLsbD 0 fcsTable)

/-- Even parity over the 64-bit frame: the FCS's bit 0 is the parity of the codeword and the FCS's upper 15 bits. -/
def Obligations.FrameHasEvenParity : Prop :=
  ∀ cw : Codeword, (fcs cw).getLsbD 0 =
    ((List.range 48).foldl (fun p k => p ^^ cw.getLsbD k) false ^^
      (List.range 15).foldl (fun p k => p ^^ (fcs cw).getLsbD (k + 1)) false)

/-- Every CCSC has the control channel's synchronisation word as its FCS, every DCSC the data channel's. -/
def Obligations.SyncCodewordsHaveTheirSyncWord : Prop :=
  (∀ s : BitVec 15, fcs (syncCW s .ccsc) = 0xC4D7) ∧ (∀ s : BitVec 15, fcs (syncCW s .dcsc) = 0x3B28)

/-- For a system code and a family exactly one completion sequence gives the family's synchronisation word, and it has the
closed form of the table `B[k]`. -/
def Obligations.CompletionIsUniqueWithClosedForm : Prop :=
  ∀ (s : BitVec 15) (fam : SyncFamily),
    (∀ ccs : BitVec 16, fcs (0#1 ++ s ++ ccs ++ 0xAAAA#16) = fam.sync ↔ ccs = completion s fam) ∧
    completion s fam = completionBase fam ^^^ xorWhere s.getLsbD 0 completionTable

/-! ### The codec -/

/-- The variants that are only sent: each packing expression with every field masked, and the two synchronisation codewords,
whose only field is the system code. -/
def Obligations.EncodePacksTheTransmitSide : Prop :=
  (∀ sys : Nat, encode (.ccsc sys) = syncCW (BitVec.ofNat 15 sys) .ccsc ∧
    encode (.dcsc sys) = syncCW (BitVec.ofNat 15 sys) .dcsc) ∧
  (∀ (v : Variant) (n : Nat), receivable v = false → packed v = some n → (encode v).toNat = n) ∧
  (∀ v : Variant, packed v = none → ∃ sys, v = .ccsc sys ∨ v = .dcsc sys)

/-- The variants a radio unit can send, the ACK family, the RQ family, MAINT and SAMIS: each packing expression with every
field masked. -/
def Obligations.EncodePacksTheRadioSide : Prop :=
  ∀ (v : Variant) (n : Nat), receivable v = true → packed v = some n → (encode v).toNat = n

/-- `encode(decode(x)) = x` for every word that decodes, and `decode(encode(v)) = v` with the fields masked for every
receivable variant, `v` itself when its fields are in range. -/
def Obligations.CodecRoundTrips : Prop :=
  (∀ (x : Codeword) (v : Variant), decode x = some v → encode v = x ∧ v.wf = true ∧ receivable v = true) ∧
  (∀ v : Variant, receivable v = true → decode (encode v) = some (masked v)) ∧
  (∀ v : Variant, v.wf = true → masked v = v)

/-- A word decodes exactly when bits 47 and 26 are 1 and it is one of the 16 receivable combinations of category 0 or
descriptor 0 of category 1. -/
def Obligations.DecodableWordsExactly : Prop :=
  ∀ x : Codeword, (decode x).isSome = true ↔
    slice x 47 47 = 1 ∧ slice x 26 26 = 1 ∧
      (slice x 25 23 = 0 ∧
          (slice x 22 21 = 1 ∨ (slice x 22 21 = 2 ∧ slice x 20 18 ≠ 1) ∨ (slice x 22 21 = 3 ∧ slice x 20 18 = 1)) ∨
        slice x 25 23 = 1 ∧ slice x 22 20 = 0)

/-- How the words of the variants that are only sent read: the AHY family as the RQ variant with the same `FUNC`, every other
one as no message, whatever the fields. -/
def Obligations.TransmitSideWordsRead : Prop :=
  (∀ sys : Nat, decode (encode (.ccsc sys)) = none ∧ decode (encode (.dcsc sys)) = none) ∧
  (∀ pfix ident1 d chan ident2 n2 : Nat, decode (encode (.gtc pfix ident1 d chan ident2 n2)) = none) ∧
  (∀ func pfix ident1 chan4 wt rsvd m n : Nat,
    decode (encode (.alhFam func pfix ident1 chan4 wt rsvd m n)) = none) ∧
  (∀ chan cont rsvd spare : Nat, decode (encode (.clear chan cont rsvd spare)) = none) ∧
  (∀ pfix ident1 cont m2 rsvd spare : Nat, decode (encode (.move pfix ident1 cont m2 rsvd spare)) = none) ∧
  (∀ sysdef p15 p18 : Nat, decode (encode (.bcast sysdef p15 p18)) = none) ∧
  (∀ pfix ident1 ident2 d point check e ad : Nat,
    decode (encode (.ahy pfix ident1 ident2 d point check e ad)) =
      some (masked (.rqs pfix ident1 ident2 d point check e ad))) ∧
  (∀ pfix ident1 ident2 rsvd : Nat,
    decode (encode (.ahyx pfix ident1 ident2 rsvd)) = some (masked (.rqx pfix ident1 ident2 rsvd))) ∧
  (∀ pfix ident1 ident2 status : Nat,
    decode (encode (.ahyq pfix ident1 ident2 status)) = some (masked (.rqq pfix ident1 ident2 status))) ∧
  (∀ pfix ident1 ident2 slots desc : Nat,
    decode (encode (.ahyc pfix ident1 ident2 slots desc)) =
      some (masked (.rqc pfix ident1 ident2 slots (desc / 4) (desc / 2) desc)))

/-- Two variants with in-range fields have the same word only if they are the same or one of the four pairs of R131. -/
def Obligations.EncodeCollidesOnlyInThePairs : Prop :=
  ∀ v u : Variant, v.wf = true → u.wf = true → encode v = encode u → v = u ∨ SameWordPair v u ∨ SameWordPair u v

/-! ### The codeword rows as instructions (log 2: the meaning of a row is ENC on its variant) -/

/-- The rows CCSC and DCSC answer the synchronisation codeword of their system code, masked to 15 bits (row meaning: log 2). -/
def Obligations.SyncRowsAnswerTheirCodeword : Prop :=
  ∀ sys : Nat, AnswersSync (.ccsc sys) sys .ccsc 0xC4D7 ∧ AnswersSync (.dcsc sys) sys .dcsc 0x3B28

/-- The row GTC answers the word of its packing expression (row meaning: log 2). -/
def Obligations.GtcRowPacksItsFields : Prop :=
  ∀ pfix ident1 d chan ident2 n2 : Nat,
    AnswersWord (.gtc pfix ident1 d chan ident2 n2)
      (1 <<< 47 ||| mask 7 pfix <<< 40 ||| mask 13 ident1 <<< 27 ||| 0 <<< 26 ||| mask 1 d <<< 25
        ||| mask 10 chan <<< 15 ||| mask 13 ident2 <<< 2 ||| mask 2 n2)

/-- The seven ALH rows answer `ALHfam` with `FUNC` 0 to 6 (row meaning: log 2). -/
def Obligations.AlohaRowsPackTheirFields : Prop :=
  ∀ pfix ident1 chan4 wt rsvd m n : Nat,
    AnswersWord (.alh pfix ident1 chan4 wt rsvd m n) (Spec.alhFam 0 pfix ident1 chan4 wt rsvd m n) ∧
    AnswersWord (.alhs pfix ident1 chan4 wt rsvd m n) (Spec.alhFam 1 pfix ident1 chan4 wt rsvd m n) ∧
    AnswersWord (.alhd pfix ident1 chan4 wt rsvd m n) (Spec.alhFam 2 pfix ident1 chan4 wt rsvd m n) ∧
    AnswersWord (.alhe pfix ident1 chan4 wt rsvd m n) (Spec.alhFam 3 pfix ident1 chan4 wt rsvd m n) ∧
    AnswersWord (.alhr pfix ident1 chan4 wt rsvd m n) (Spec.alhFam 4 pfix ident1 chan4 wt rsvd m n) ∧
    AnswersWord (.alhx pfix ident1 chan4 wt rsvd m n) (Spec.alhFam 5 pfix ident1 chan4 wt rsvd m n) ∧
    AnswersWord (.alhf pfix ident1 chan4 wt rsvd m n) (Spec.alhFam 6 pfix ident1 chan4 wt rsvd m n)

/-- The eight ACK rows answer `ACKfam` with `FUNC` 0 to 7 (row meaning: log 2). -/
def Obligations.AckRowsPackTheirFields : Prop :=
  ∀ pfix ident1 ident2 qual n : Nat,
    AnswersWord (.ack pfix ident1 ident2 qual n) (Spec.ackFam 0 pfix ident1 ident2 qual n) ∧
    AnswersWord (.acki pfix ident1 ident2 qual n) (Spec.ackFam 1 pfix ident1 ident2 qual n) ∧
    AnswersWord (.ackq pfix ident1 ident2 qual n) (Spec.ackFam 2 pfix ident1 ident2 qual n) ∧
    AnswersWord (.ackx pfix ident1 ident2 qual n) (Spec.ackFam 3 pfix ident1 ident2 qual n) ∧
    AnswersWord (.ackv pfix ident1 ident2 qual n) (Spec.ackFam 4 pfix ident1 ident2 qual n) ∧
    AnswersWord (.acke pfix ident1 ident2 qual n) (Spec.ackFam 5 pfix ident1 ident2 qual n) ∧
    AnswersWord (.ackt pfix ident1 ident2 qual n) (Spec.ackFam 6 pfix ident1 ident2 qual n) ∧
    AnswersWord (.ackb pfix ident1 ident2 qual n) (Spec.ackFam 7 pfix ident1 ident2 qual n)

/-- The rows AHY, AHYX, AHYQ and AHYC answer the words of their packing expressions (row meaning: log 2). -/
def Obligations.AhoyRowsPackTheirFields : Prop :=
  (∀ pfix ident1 ident2 d point check e ad : Nat,
    AnswersWord (.ahy pfix ident1 ident2 d point check e ad)
      (t2 0 pfix ident1 (mask 13 ident2 <<< 5 ||| mask 1 d <<< 4 ||| mask 1 point <<< 3 ||| mask 1 check <<< 2
        ||| mask 1 e <<< 1 ||| mask 1 ad))) ∧
  (∀ pfix ident1 ident2 rsvd : Nat,
    AnswersWord (.ahyx pfix ident1 ident2 rsvd) (t2 2 pfix ident1 (mask 13 ident2 <<< 5 ||| mask 5 rsvd))) ∧
  (∀ pfix ident1 ident2 status : Nat,
    AnswersWord (.ahyq pfix ident1 ident2 status) (t2 6 pfix ident1 (mask 13 ident2 <<< 5 ||| mask 5 status))) ∧
  (∀ pfix ident1 ident2 slots desc : Nat,
    AnswersWord (.ahyc pfix ident1 ident2 slots desc)
      (t2 7 pfix ident1 (mask 13 ident2 <<< 5 ||| mask 2 slots <<< 3 ||| mask 3 desc)))

/-- The seven RQ rows answer the words of their packing expressions (row meaning: log 2). -/
def Obligations.RequestRowsPackTheirFields : Prop :=
  (∀ pfix ident1 ident2 dt level ext flag1 flag2 : Nat,
    AnswersWord (.rqs pfix ident1 ident2 dt level ext flag1 flag2)
      (t2 0 pfix ident1 (mask 13 ident2 <<< 5 ||| mask 1 dt <<< 4 ||| mask 1 level <<< 3 ||| mask 1 ext <<< 2
        ||| mask 1 flag1 <<< 1 ||| mask 1 flag2))) ∧
  (∀ pfix ident1 ident2 rsvd : Nat,
    AnswersWord (.rqx pfix ident1 ident2 rsvd) (t2 2 pfix ident1 (mask 13 ident2 <<< 5 ||| mask 5 rsvd))) ∧
  (∀ pfix ident1 ident2 sd div flag1 flag2 : Nat,
    AnswersWord (.rqt pfix ident1 ident2 sd div flag1 flag2)
      (t2 3 pfix ident1 (mask 13 ident2 <<< 5 ||| mask 2 sd <<< 3 ||| mask 1 div <<< 2 ||| mask 1 flag1 <<< 1
        ||| mask 1 flag2))) ∧
  (∀ pfix ident1 ident2 d rsvd ext flag1 flag2 : Nat,
    AnswersWord (.rqe pfix ident1 ident2 d rsvd ext flag1 flag2)
      (t2 4 pfix ident1 (mask 13 ident2 <<< 5 ||| mask 1 d <<< 4 ||| mask 1 rsvd <<< 3 ||| mask 1 ext <<< 2
        ||| mask 1 flag1 <<< 1 ||| mask 1 flag2))) ∧
  (∀ pfix ident1 info rsvd : Nat,
    AnswersWord (.rqr pfix ident1 info rsvd) (t2 5 pfix ident1 (mask 15 info <<< 3 ||| mask 3 rsvd))) ∧
  (∀ pfix ident1 ident2 status : Nat,
    AnswersWord (.rqq pfix ident1 ident2 status) (t2 6 pfix ident1 (mask 13 ident2 <<< 5 ||| mask 5 status))) ∧
  (∀ pfix ident1 ident2 slots ext flag1 flag2 : Nat,
    AnswersWord (.rqc pfix ident1 ident2 slots ext flag1 flag2)
      (t2 7 pfix ident1 (mask 13 ident2 <<< 5 ||| mask 2 slots <<< 3 ||| mask 1 ext <<< 2 ||| mask 1 flag1 <<< 1
        ||| mask 1 flag2)))

/-- The rows MAINT, CLEAR, MOVE and SAMIS answer the words of their packing expressions (row meaning: log 2). -/
def Obligations.ControlRowsPackTheirFields : Prop :=
  (∀ pfix ident1 chan oper rsvd spare : Nat,
    AnswersWord (.maint pfix ident1 chan oper rsvd spare)
      (hdr pfix ident1 3 1 ||| mask 10 chan <<< 8 ||| mask 3 oper <<< 5 ||| mask 2 rsvd <<< 3 ||| mask 3 spare)) ∧
  (∀ chan cont rsvd spare : Nat,
    AnswersWord (.clear chan cont rsvd spare)
      (1 <<< 47 ||| mask 10 chan <<< 37 ||| mask 10 cont <<< 27 ||| 1 <<< 26 ||| 0 <<< 23 ||| 3 <<< 21 ||| 2 <<< 18
        ||| mask 4 rsvd <<< 14 ||| mask 2 spare <<< 12 ||| 0xAAA)) ∧
  (∀ pfix ident1 cont m2 rsvd spare : Nat,
    AnswersWord (.move pfix ident1 cont m2 rsvd spare)
      (hdr pfix ident1 3 3 ||| mask 10 cont <<< 8 ||| mask 2 m2 <<< 6 ||| mask 2 rsvd <<< 4 ||| mask 4 spare)) ∧
  (∀ p1 p2 : Nat, AnswersWord (.samis p1 p2) (Spec.samis p1 p2))

/-- The row BCAST answers its packing expression, and each of the six views that of the broadcast it abbreviates (row
meaning: log 2). -/
def Obligations.BroadcastRowsPackTheirFields : Prop :=
  (∀ sysdef p15 p18 : Nat, AnswersWord (.bcast sysdef p15 p18) (Spec.bcast sysdef p15 p18)) ∧
  (∀ sys chan spare rsvd : Nat,
    AnswersWord (.bcastAnn sys chan spare rsvd)
      (Spec.bcast 0 sys (mask 10 chan <<< 8 ||| mask 2 spare <<< 6 ||| mask 6 rsvd)) ∧
    AnswersWord (.bcastWdr sys chan spare rsvd)
      (Spec.bcast 1 sys (mask 10 chan <<< 8 ||| mask 2 spare <<< 6 ||| mask 6 rsvd))) ∧
  (∀ sys per ival pon ident rsvd spare : Nat,
    AnswersWord (.bcastMaint sys per ival pon ident rsvd spare)
      (Spec.bcast 2 sys (mask 1 per <<< 17 ||| mask 5 ival <<< 12 ||| mask 1 pon <<< 11 ||| mask 1 ident <<< 10
        ||| mask 2 rsvd <<< 8 ||| mask 8 spare))) ∧
  (∀ sys rsvd spare : Nat,
    AnswersWord (.bcastReg sys rsvd spare) (Spec.bcast 3 sys (mask 4 rsvd <<< 14 ||| mask 14 spare))) ∧
  (∀ sys chan spare rsvd adjsite : Nat,
    AnswersWord (.bcastAdj sys chan spare rsvd adjsite)
      (Spec.bcast 4 sys (mask 10 chan <<< 8 ||| mask 2 spare <<< 6 ||| mask 2 rsvd <<< 4 ||| mask 4 adjsite)) ∧
    AnswersWord (.bcastVote sys chan spare rsvd adjsite)
      (Spec.bcast 5 sys (mask 10 chan <<< 8 ||| mask 2 spare <<< 6 ||| mask 2 rsvd <<< 4 ||| mask 4 adjsite)))

/-- TRAFFIC answers the `TxOut` form MARK, no codeword, and changes nothing (the model's choice, log 3, from R154). -/
def Obligations.TrafficRowAnswersTheMark : Prop :=
  ∀ s : State, exec .traffic s = .next { s with result := .slot .mark, events := [] }

/-! ### The host transactions other than the two ticks -/

/-- NOP, START, SET_IDENT and IDENT_DONE: what each writes, in every state, and that nothing else changes; SET_IDENT
overwrites a pending payload. A pending payload is cleared only by RESET or by the tick that hands it over, which dispatches on
state 0, and handing it over consumes it. -/
def Obligations.LifecycleTransactions : Prop :=
  (∀ s : State,
    exec .nop s = .next { s with result := .nothing, events := [] } ∧
    exec .start s = .next { s with running := true, result := .nothing, events := [] } ∧
    (∀ p : Payload, exec (.setIdent p) s = .next { s with identPending := some p, result := .nothing, events := [] }) ∧
    exec .identDone s = .next { s with state := .beginFrame, result := .nothing, events := [] }) ∧
  (∀ (i : Instr) (s t : State), s.identPending ≠ none → exec i s = .next t → t.identPending = none →
    i = .reset ∨ (i = .txTick ∧ dispatchState s = .beginFrame ∧ ∃ p, Event.identStart p ∈ t.events)) ∧
  (∀ (i : Instr) (s t : State) (p : Payload), exec i s = .next t → Event.identStart p ∈ t.events → t.identPending = none)

/-- STOP clears `running` and nothing else; while it is clear both ticks change no register and raise no event, the transmit
tick returning NONE; a receive tick returns nothing in any case. -/
def Obligations.StopMakesTheTicksIgnored : Prop :=
  (∀ s : State, exec .stop s = .next { s with running := false, result := .nothing, events := [] }) ∧
  (∀ (s : State) (v : Nat), s.running = false →
    exec .txTick s = .next { s with result := .slot .none, events := [] } ∧
    exec (.rxTick v) s = .next { s with result := .nothing, events := [] }) ∧
  (∀ (s t : State) (v : Nat), exec (.rxTick v) s = .next t → t.result = .nothing)

/-- An enqueue of an item the operand format can carry, on a queue with room, appends exactly that item, its codeword reduced
to 48 bits, at the tail of its queue and changes nothing else. -/
def Obligations.EnqueueAppendsAtTheTail : Prop :=
  ∀ (s : State) (it : ItemOperand), it.representable s.cfg = true →
    (queueFull s.cfg s.ccq = false →
      exec (.enqCC it) s = .next { s with
        ccq := s.ccq ++ [{ cw := BitVec.ofNat 48 it.cw, txcEn := it.txcEn, txcTag := it.txcTag, rlen := it.rlen,
                           rxcEn := it.rxcEn, rxcTag := it.rxcTag }]
        result := .nothing
        events := [] }) ∧
    (queueFull s.cfg s.tcq = false →
      exec (.enqTC it) s = .next { s with
        tcq := s.tcq ++ [{ cw := BitVec.ofNat 48 it.cw, txcEn := it.txcEn, txcTag := it.txcTag, rlen := it.rlen,
                           rxcEn := it.rxcEn, rxcTag := it.rxcTag }]
        result := .nothing
        events := [] })

/-- An enqueue is refused where the item cannot be carried or a finite queue is full, and an unbounded queue is never full. -/
def Obligations.EnqueueRefusals : Prop :=
  (∀ (s : State) (it : ItemOperand), it.representable s.cfg = false →
    exec (.enqCC it) s = .refused .itemNotRepresentable ∧ exec (.enqTC it) s = .refused .itemNotRepresentable) ∧
  (∀ (s : State) (it : ItemOperand), it.representable s.cfg = true →
    (queueFull s.cfg s.ccq = true → exec (.enqCC it) s = .refused .queueFull) ∧
    (queueFull s.cfg s.tcq = true → exec (.enqTC it) s = .refused .queueFull)) ∧
  (∀ (c : Config) (q : List TxItem), queueFull c q = true ↔ ∃ d, c.qdepth = some d ∧ d ≤ q.length)

/-- FCS answers the check sequence of its operand's low 48 bits, the value of R92 (b)'s table, and changes nothing. -/
def Obligations.FcsTransaction : Prop :=
  ∀ (s : State) (v : Nat), ∃ c : Check,
    exec (.fcs v) s = .next { s with result := .check c, events := [] } ∧
    c = fcs (BitVec.ofNat 48 v) ∧ c = 0x0003 ^^^ xorWhere v.testBit 0 fcsTable

/-- ENC answers the word of the variant's packing expression, or the synchronisation codeword of the variant's own system
code, and changes nothing. -/
def Obligations.EncTransaction : Prop :=
  (∀ (v : Variant) (n : Nat), packed v = some n → AnswersWord (.enc v) n) ∧
  (∀ sys : Nat, AnswersSync (.enc (.ccsc sys)) sys .ccsc 0xC4D7 ∧ AnswersSync (.enc (.dcsc sys)) sys .dcsc 0x3B28) ∧
  (∀ v : Variant, packed v = none → ∃ sys, v = .ccsc sys ∨ v = .dcsc sys)

/-- DEC answers the one receivable variant with in-range fields whose word is the operand's low 48 bits, none if there is
none, and changes nothing. -/
def Obligations.DecTransaction : Prop :=
  ∀ (s : State) (n : Nat), ∃ o : Option Variant,
    exec (.dec n) s = .next { s with result := .variant o, events := [] } ∧
    ∀ v : Variant, o = some v ↔ receivable v = true ∧ v.wf = true ∧ encode v = BitVec.ofNat 48 n

/-- RESET puts every register in its reset value, the state of power-on, keeps the configuration and raises no event; inside an
answer it is refused. -/
def Obligations.ResetTransaction : Prop :=
  (∀ s : State,
    exec .reset s = .next { s with
      state := s.cfg.initState, af := s.cfg.afReset, rsv := 0, running := false, identPending := none,
      txcPending := none, rxcNext := none, rxc := none, lastTx := .none, ccq := [], tcq := [],
      result := .nothing, events := [] }) ∧
  (∀ s : State, exec .reset s = .next { State.powerOn s.cfg with
    inbox := s.inbox, txcAnswers := s.txcAnswers, answers := s.answers }) ∧
  (∀ (s : State) (before after : List Instr), ∃ r, applyOps s (before ++ .reset :: after) = .error r)

/-- After reset every register holds the value of the reset table; with the default configuration `state` is 0 and `af` 0. -/
def Obligations.ResetLeavesTheTable : Prop :=
  (∀ c : Config, let s := State.powerOn c
    s.state = c.initState ∧ s.af = c.afReset ∧ s.rsv = 0 ∧ s.running = false ∧ s.identPending = none ∧
    s.txcPending = none ∧ s.rxcNext = none ∧ s.rxc = none ∧ s.lastTx = .none ∧ s.ccq = [] ∧ s.tcq = []) ∧
  State.reset.state.code = 0 ∧ State.reset.af = 0 ∧ State.reset = State.powerOn State.reset.cfg

/-! ### Answers of the host -/

/-- `Apply`: with unbounded queues and legal operations, the items are appended in list order, each to its own queue, the last
payload set is the one pending, and nothing else changes; a list that holds any other operation is refused. -/
def Obligations.ApplyPerformsTheOperationsInOrder : Prop :=
  (∀ (s : State) (ops : List Instr), s.cfg.qdepth = none → opsLegal s.cfg ops = true →
    applyOps s ops = .ok { s with
      ccq := s.ccq ++ controlItems ops
      tcq := s.tcq ++ trafficItems ops
      identPending := identAfter s.identPending ops }) ∧
  (∀ (s : State) (ops : List Instr), (∃ op ∈ ops, opPermitted op = false) → ∃ r, applyOps s ops = .error r)

/-- An answer that holds an operation other than ENQ_CC, ENQ_TC and SET_IDENT, or an override to 5, 6 or 7, refuses the tick
whose event it answers. -/
def Obligations.IllegalAnswersAreRefused : Prop :=
  (∀ (s : State) (t : Tag), s.running = true → s.txcPending = some t →
    (∃ op ∈ s.nextTxcAnswer.ops, opPermitted op = false) ∨ overrideLegal s.nextTxcAnswer.newState = false →
    ∃ r, exec .txTick s = .refused r) ∧
  (∀ (s : State) (c : Collector), s.running = true → s.txcPending = none → countedCollector s = some c →
    c.countdown = 1 → c.en = true → (∃ op ∈ s.nextAnswer, opPermitted op = false) →
    ∃ r, exec .txTick s = .refused r) ∧
  (∀ (s : State) (v : Nat), s.running = true →
    (∃ c, s.rxc = some c ∧ c.remaining = 1 ∧ c.en = true) ∨
      (s.rxc = none ∧ ∃ d, receivable d = true ∧ encode d = BitVec.ofNat 48 v) →
    (∃ op ∈ s.nextAnswer, opPermitted op = false) → ∃ r, exec (.rxTick v) s = .refused r)

/-! ### The transmit tick -/

/-- Step 1: with a completion pending, the tick raises `EV_TXC` first, applies the answer's operations, overrides the state
if the answer says so, and is then the tick of the state this gives, the completion cleared. The answer is the host's next
one, empty if it has given none (log 5). -/
def Obligations.StepOneInvokesTheCompletion : Prop :=
  ∀ (s s1 : State) (t : Tag) (a : TxcAnswer),
    s.running = true → s.txcPending = some t → a = s.txcAnswers.headD { ops := [], newState := none } →
    applyOps { s with txcPending := none, txcAnswers := s.txcAnswers.tail, result := .nothing, events := [.txc t] } a.ops
      = .ok s1 →
    (a.newState = none → exec .txTick s = withEarlierEvents [.txc t] (exec .txTick s1)) ∧
    (∀ st : SeqState, a.newState = some st.code →
      exec .txTick s = withEarlierEvents [.txc t] (exec .txTick { s1 with state := st })) ∧
    (∀ b : BitVec 3, a.newState = some b → 5 ≤ b.toNat → exec .txTick s = .refused (.newStateOutOfRange b))

/-- Step 2: with no completion pending, a staged reservation makes the tick that of the state where it is the outstanding one;
what was outstanding is dropped, no event. -/
def Obligations.StepTwoArmsTheReservation : Prop :=
  ∀ (s : State) (c : Collector), s.running = true → s.txcPending = none → s.rxcNext = some c →
    exec .txTick s = exec .txTick { s with rxc := some c, rxcNext := none }

/-- Step 3: with nothing pending or staged, an outstanding collector counts down; at zero it is cleared and, if a
continuation was given, `EV_RXC` TIMEOUT with no codewords is raised and its answer applied before the rest of the tick. -/
def Obligations.StepThreeDrivesTheTimeout : Prop :=
  ∀ (s : State) (c : Collector),
    s.running = true → s.txcPending = none → s.rxcNext = none → s.rxc = some c →
    (2 ≤ c.countdown → ∃ t, exec .txTick { s with rxc := none } = .next t ∧
      exec .txTick s = .next { t with rxc := some { c with countdown := c.countdown - 1 } }) ∧
    (c.countdown = 1 → c.en = false → exec .txTick s = exec .txTick { s with rxc := none }) ∧
    (c.countdown = 1 → c.en = true → ∀ s1 : State,
      applyOps { s with rxc := none, answers := s.answers.tail, result := .nothing,
                        events := [.rxc c.tag .timeout []] } (s.answers.headD []) = .ok s1 →
      exec .txTick s = withEarlierEvents [.rxc c.tag .timeout []] (exec .txTick s1))

/-- State 0: at the frame boundary a pending identification payload is handed over, the state goes to 4 and nothing is sent;
otherwise the CCSC of the configured system code is sent and the state goes to 1. -/
def Obligations.StateZeroBeginsTheFrame : Prop :=
  ∀ s : State, s.Quiet → s.state = .beginFrame →
    (∀ p, s.identPending = some p → s.af = 0 →
      exec .txTick s = .next { s with
        identPending := none, state := .identInProgress, lastTx := .none, result := .slot .none,
        events := [.identStart p] }) ∧
    (s.identPending = none ∨ s.af ≠ 0 →
      ∃ w : Codeword, w = syncCW s.cfg.syscode .ccsc ∧ fcs w = 0xC4D7 ∧
        exec .txTick s = .next (sending (.cw w) { s with state := .controlCodeword }))

/-- State 1: the state goes to 0 and the Aloha counter steps whatever is sent. A reservation still active after its decrement
sends the filler and leaves the queue alone; else the head of the control queue is sent and its completions installed; else
the idle Aloha invitation is sent, carrying the value `ALOHA_STEP` captured. -/
def Obligations.StateOneFollowsThePrecedence : Prop :=
  ∀ s : State, s.Quiet → s.state = .controlCodeword →
    (2 ≤ s.rsv → exec .txTick s = .next (sending (.cw s.cfg.fillerCw)
      { s with state := .beginFrame, af := (s.cfg.alohaStep.get s.af).1, rsv := s.rsv - 1 })) ∧
    (∀ it rest, s.rsv ≤ 1 → s.ccq = it :: rest →
      exec .txTick s = .next (sending (.cw it.cw) (withCompletionsOf it
        { s with state := .beginFrame, af := (s.cfg.alohaStep.get s.af).1, rsv := 0, ccq := rest }))) ∧
    (s.rsv ≤ 1 → s.ccq = [] → ∃ w : Codeword,
      w.toNat = Spec.alhFam s.cfg.alhFunc.toNat s.cfg.alhPfix.toNat s.cfg.alhIdent1.toNat s.cfg.chan.toNat
        s.cfg.alhWt.toNat s.cfg.alhRsvd.toNat s.cfg.alhM.toNat (s.cfg.alohaStep.get s.af).2.val ∧
      exec .txTick s = .next (sending (.cw w)
        { s with state := .beginFrame, af := (s.cfg.alohaStep.get s.af).1, rsv := 0 }))

/-- With the default reading B of `ALOHA_STEP` (log 8) an idle invitation carries the old counter in its `N` field, and the
counter goes from 0 to 5 and is decremented otherwise. -/
def Obligations.IdleInvitationCountsByReadingB : Prop :=
  ∀ s : State, s.Quiet → s.state = .controlCodeword → s.rsv ≤ 1 → s.ccq = [] → s.cfg.alohaStep = alohaB →
    ∃ (t : State) (w : Codeword), exec .txTick s = .next t ∧ t.result = .slot (.cw w) ∧ slice w 3 0 = s.af.val ∧
      t.af.val = if s.af.val = 0 then 5 else s.af.val - 1

/-- State 2: the frame counter is reset; queued traffic sends the marker and moves to state 3, no traffic sends nothing and
stays; nothing is popped and `rsv` is not touched. -/
def Obligations.StateTwoMarksOrStaysSilent : Prop :=
  ∀ s : State, s.Quiet → s.state = .trafficQuiescent →
    (s.tcq ≠ [] → exec .txTick s = .next (sending .mark { s with state := .trafficCodeword, af := 0 })) ∧
    (s.tcq = [] → exec .txTick s = .next (sending .none { s with af := 0 }))

/-- State 3: the state goes back to 2; the head of the traffic queue is sent and its completions installed, and an empty queue
is the one fault: `EV_FAULT(TX, 1)` is raised, the tick returns NONE and no other register is written. -/
def Obligations.StateThreeSendsTrafficOrFaults : Prop :=
  ∀ s : State, s.Quiet → s.state = .trafficCodeword →
    (∀ it rest, s.tcq = it :: rest →
      exec .txTick s = .next (sending (.cw it.cw) (withCompletionsOf it
        { s with state := .trafficQuiescent, tcq := rest }))) ∧
    (s.tcq = [] → exec .txTick s = .next
      { s with state := .trafficQuiescent, result := .slot .none, events := [.fault .tx 1] })

/-- The one fault: state 3 with an empty traffic queue. The state is already 2, `EV_FAULT(TX, 1)` is raised, the tick returns
NONE, `last_tx` and every other register are unchanged, and the next tick is accepted: it sends nothing from state 2. -/
def Obligations.TrafficUnderflowIsTakenAndLeft : Prop :=
  ∀ s : State, s.Quiet → s.state = .trafficCodeword → s.tcq = [] →
    ∃ t, exec .txTick s = .next t ∧
      t = { s with state := .trafficQuiescent, result := .slot .none, events := [.fault .tx 1] } ∧
      exec .txTick t = .next { t with af := 0, lastTx := .none, result := .slot .none, events := [] }

/-- State 4: step 4 does nothing and the tick returns NONE; the state stays 4. -/
def Obligations.StateFourWaits : Prop :=
  ∀ s : State, s.Quiet → s.state = .identInProgress → exec .txTick s = .next (sending .none s)

/-! ### The receive tick -/

/-- Collector path: the word is appended, the countdown restarted and the remaining count decremented; the last word clears
the slot and, if a continuation was given, delivers the whole sequence, whose answer is then applied. -/
def Obligations.ReceiveFeedsTheCollector : Prop :=
  ∀ (s : State) (c : Collector) (v : Nat), s.running = true → s.rxc = some c →
    (2 ≤ c.remaining → exec (.rxTick v) s = .next { s with
      rxc := some { c with acc := c.acc ++ [BitVec.ofNat 48 v], countdown := 4, remaining := c.remaining - 1 },
      result := .nothing, events := [] }) ∧
    (c.remaining = 1 → c.en = false → exec (.rxTick v) s = .next { s with
      rxc := none, result := .nothing, events := [] }) ∧
    (c.remaining = 1 → c.en = true → ∀ t : State,
      applyOps { s with rxc := none, answers := s.answers.tail, result := .nothing,
                        events := [.rxc c.tag .success (c.acc ++ [BitVec.ofNat 48 v])] } (s.answers.headD []) = .ok t →
      exec (.rxTick v) s = .next t)

/-- Decode path: with no collector outstanding a word of a receivable variant is forwarded with the channel identity, whatever
the state, and the answer applied; every other word is dropped with no effect. -/
def Obligations.ReceiveForwardsWhatDecodes : Prop :=
  ∀ (s : State) (v : Nat), s.running = true → s.rxc = none →
    (∀ (d : Variant) (t : State), receivable d = true → d.wf = true → encode d = BitVec.ofNat 48 v →
      applyOps { s with answers := s.answers.tail, result := .nothing, events := [.rxfwd s.cfg.chId d] }
        (s.answers.headD []) = .ok t →
      exec (.rxTick v) s = .next t) ∧
    ((∀ d : Variant, receivable d = true → encode d ≠ BitVec.ofNat 48 v) →
      exec (.rxTick v) s = .next { s with result := .nothing, events := [] })

/-! ### Whole-machine rules -/

/-- With a legal host every tick of a running block completes, in every state of the sequencer. -/
def Obligations.TicksCompleteForLegalAnswers : Prop :=
  ∀ (s : State) (v : Nat), s.running = true → s.AnswersLegal →
    (∃ t, exec .txTick s = .next t) ∧ (∃ t, exec (.rxTick v) s = .next t)

/-- A legal host never meets a state without a next step: every step of every run completes and the host's remaining
transactions and answers stay legal. -/
def Obligations.LegalHostNeverStopsTheBlock : Prop :=
  ∀ s : State, s.HostLegal → ∀ k : Nat, ∃ t, Host.Core.run Sys2Proof.core k s = .next t ∧ State.HostLegal t

/-- The reset state meets the invariant. -/
def Obligations.ResetMeetsTheInvariant : Prop := State.reset.Inv ∧ State.reset.HostLegal

/-- The invariant of R29 holds after every step from a state that meets it. -/
def Obligations.StepKeepsTheInvariant : Prop := ∀ s t : State, s.Inv → step s = .next t → t.Inv

/-- A collector is only ever armed from the staged one or fed: through every step, its collected and remaining counts add up
to the same number, and its tag and continuation bit stay. A staged collector is the one that was staged, or comes from the
item a running transmit tick sends, an item of a queue or of an answer applied earlier in that tick: its remaining count is the
item's reply length, its tag and continuation bit are the item's, and `rsv` becomes the reply length. -/
def Obligations.CollectorLengthIsConserved : Prop :=
  ∀ (i : Instr) (s t : State), s.Inv → exec i s = .next t →
    (∀ c, t.rxc = some c → ∃ c0, (s.rxc = some c0 ∨ s.rxcNext = some c0) ∧
      c.acc.length + c.remaining = c0.acc.length + c0.remaining ∧ c.tag = c0.tag ∧ c.en = c0.en ∧
      c0.acc <+: c.acc) ∧
    (∀ c, t.rxcNext = some c →
      (s.rxcNext = some c ∧ (i ≠ .txTick ∨ s.running = false)) ∨
      (i = .txTick ∧ s.running = true ∧ c.acc = [] ∧ c.countdown = 4 ∧ t.rsv = c.remaining ∧
        ∃ it : TxItem, c.remaining = it.rlen ∧ c.en = it.rxcEn ∧ c.tag = it.rxcTag ∧ t.result = .slot (.cw it.cw) ∧
          (s.ccq ++ controlItems (earlierOps s) = it :: t.ccq ∨ s.tcq ++ trafficItems (earlierOps s) = it :: t.tcq)))

/-- Which instructions write each register: everything else leaves it as it is. -/
def Obligations.RegisterWriters : Prop :=
  ∀ (i : Instr) (s t : State), exec i s = .next t →
    t.cfg = s.cfg ∧ t.inbox = s.inbox ∧
    (t.running ≠ s.running → i = .start ∨ i = .stop ∨ i = .reset) ∧
    (t.state ≠ s.state → i = .txTick ∨ i = .identDone ∨ i = .reset) ∧
    (t.af ≠ s.af → i = .txTick ∨ i = .reset) ∧
    (t.rsv ≠ s.rsv → i = .txTick ∨ i = .reset) ∧
    (t.lastTx ≠ s.lastTx → i = .txTick ∨ i = .reset) ∧
    (t.txcPending ≠ s.txcPending → i = .txTick ∨ i = .reset) ∧
    (t.rxcNext ≠ s.rxcNext → i = .txTick ∨ i = .reset) ∧
    (t.rxc ≠ s.rxc → i = .txTick ∨ (∃ v, i = .rxTick v) ∨ i = .reset) ∧
    (t.identPending ≠ s.identPending → (∃ p, i = .setIdent p) ∨ i = .txTick ∨ (∃ v, i = .rxTick v) ∨ i = .reset) ∧
    (t.ccq ≠ s.ccq → (∃ it, i = .enqCC it) ∨ i = .txTick ∨ (∃ v, i = .rxTick v) ∨ i = .reset) ∧
    (t.tcq ≠ s.tcq → (∃ it, i = .enqTC it) ∨ i = .txTick ∨ (∃ v, i = .rxTick v) ∨ i = .reset)

/-- The queues are first-in first-out: but for RESET an instruction only appends to them, save that a transmit tick sends at
most one head: the control queue's where it dispatches on state 1, the traffic queue's where it dispatches on state 3. -/
def Obligations.QueuesAreServedInOrder : Prop :=
  ∀ (i : Instr) (s t : State), i ≠ .reset → exec i s = .next t →
    ∃ newCC newTC : List TxItem,
      (t.ccq = s.ccq ++ newCC ∧ t.tcq = s.tcq ++ newTC) ∨
      (i = .txTick ∧ s.running = true ∧ dispatchState s = .controlCodeword ∧ t.tcq = s.tcq ++ newTC ∧
        ∃ it, s.ccq ++ newCC = it :: t.ccq ∧ t.result = .slot (.cw it.cw)) ∨
      (i = .txTick ∧ s.running = true ∧ dispatchState s = .trafficCodeword ∧ t.ccq = s.ccq ++ newCC ∧
        ∃ it, s.tcq ++ newTC = it :: t.tcq ∧ t.result = .slot (.cw it.cw))

/-- Every way the state changes. A running tick goes by the state it dispatches on: from 0 to 4 exactly where the frame counter
is 0 and an identification payload is pending, else to 1; from 1 to 0; from 2 to 3 exactly where traffic is queued, else it
stays; from 3 to 2; 4 stays. Payload and queue are those step 4 sees, with what answers earlier in the tick set or enqueued;
the conditions are said where the counted collector's countdown is at least 1 (R29; log 14). IDENT_DONE goes to 0, RESET to
the initial state, and nothing else writes the state; so a channel changes role only by an override in the answer to `EV_TXC`,
by IDENT_DONE or by RESET. -/
def Obligations.StateTransfers : Prop :=
  (∀ s t : State, s.running = true → exec .txTick s = .next t →
    match dispatchState s with
    | .beginFrame => t.state = .controlCodeword ∨ t.state = .identInProgress
    | .controlCodeword => t.state = .beginFrame
    | .trafficQuiescent => t.state = .trafficQuiescent ∨ t.state = .trafficCodeword
    | .trafficCodeword => t.state = .trafficQuiescent
    | .identInProgress => t.state = .identInProgress) ∧
  (∀ s t : State, s.running = true → CountdownLive s → exec .txTick s = .next t →
    (dispatchState s = .beginFrame →
      (t.state = .identInProgress ↔ s.af = 0 ∧ identAfter s.identPending (earlierOps s) ≠ none)) ∧
    (dispatchState s = .trafficQuiescent →
      (t.state = .trafficCodeword ↔ s.tcq ++ trafficItems (earlierOps s) ≠ []))) ∧
  (∀ s : State, ∃ t, exec .identDone s = .next t ∧ t.state = .beginFrame) ∧
  (∀ s : State, ∃ t, exec .reset s = .next t ∧ t.state = s.cfg.initState) ∧
  (∀ (i : Instr) (s t : State), exec i s = .next t → t.state ≠ s.state →
    (i = .txTick ∧ s.running = true) ∨ i = .identDone ∨ i = .reset) ∧
  (∀ (i : Instr) (s t : State), exec i s = .next t → isTraffic t.state ≠ isTraffic s.state →
    (i = .txTick ∧ s.running = true ∧ s.txcPending ≠ none ∧ s.nextTxcAnswer.newState ≠ none) ∨ i = .identDone ∨
      i = .reset)

/-- The events of one transaction, in order: of a transmit tick `EV_TXC` exactly for the pending completion, then the timeout
exactly for a collector with a continuation in the last tick of its countdown, then the identification or the fault; of a
receive tick at most one; of every other instruction none. The clause of the transmit tick is said where the counted
collector's countdown is at least 1, as R29 has it (what a countdown of 0 does is the model's choice, log 14). -/
def Obligations.EventsComeInOrder : Prop :=
  (∀ s t : State, s.running = true → CountdownLive s → exec .txTick s = .next t →
    ∃ last : List Event,
      t.events = s.txcPending.toList.map Event.txc ++
        ((countedCollector s).toList.filter fun k => decide (k.countdown = 1) && k.en).map
          (fun k => Event.rxc k.tag .timeout []) ++ last ∧
      (last = [] ∨ (∃ p, last = [.identStart p] ∧ dispatchState s = .beginFrame) ∨
        (last = [.fault .tx 1] ∧ dispatchState s = .trafficCodeword))) ∧
  (∀ (s t : State) (v : Nat), exec (.rxTick v) s = .next t →
    t.events = [] ∨ (∃ k, s.rxc = some k ∧ t.events = [.rxc k.tag .success (k.acc ++ [BitVec.ofNat 48 v])]) ∨
      (∃ d, s.rxc = none ∧ t.events = [.rxfwd s.cfg.chId d])) ∧
  (∀ (i : Instr) (s t : State), i ≠ .txTick → (∀ v, i ≠ .rxTick v) → exec i s = .next t → t.events = [])

/-- A completion is invoked in the running tick after the one that sent its codeword, and only then. After a running tick the
pending completion is the sent item's own, or none; where a queue has lost an item to the tick, it is that item's, none exactly
if the item has none (said where the counted collector's countdown is at least 1; R29, log 14). The next running tick raises
`EV_TXC` for the completion pending, first and once, and for no other; every other instruction, and a tick that is gated, raises
none and keeps what is pending, but for RESET, which drops it. -/
def Obligations.CompletionBelongsToTheItemSent : Prop :=
  (∀ s t : State, s.running = true → exec .txTick s = .next t →
    t.txcPending = none ∨
    ∃ it : TxItem, it.txcEn = true ∧ t.txcPending = some it.txcTag ∧ t.result = .slot (.cw it.cw) ∧
      (it ∈ s.ccq ∨ it ∈ s.tcq ∨ it ∈ controlItems s.nextTxcAnswer.ops ∨ it ∈ trafficItems s.nextTxcAnswer.ops ∨
        it ∈ controlItems s.nextAnswer ∨ it ∈ trafficItems s.nextAnswer)) ∧
  (∀ (s t : State) (it : TxItem), s.running = true → CountdownLive s → exec .txTick s = .next t →
    s.ccq ++ controlItems (earlierOps s) = it :: t.ccq ∨ s.tcq ++ trafficItems (earlierOps s) = it :: t.tcq →
    t.result = .slot (.cw it.cw) ∧ t.txcPending = if it.txcEn = true then some it.txcTag else none) ∧
  (∀ s t : State, s.running = true → exec .txTick s = .next t →
    (∀ tag, s.txcPending = some tag → ∃ later, t.events = .txc tag :: later ∧ ∀ u, Event.txc u ∉ later) ∧
    (s.txcPending = none → ∀ u, Event.txc u ∉ t.events)) ∧
  (∀ (i : Instr) (s t : State), i ≠ .txTick ∨ s.running = false → exec i s = .next t →
    (∀ u, Event.txc u ∉ t.events) ∧ t.txcPending = if i = .reset then none else s.txcPending)

/-- A staged reservation without a reply times out in the fourth transmit tick, with one `EV_RXC` TIMEOUT and no codewords,
and is still counting after the third: with empty queues, a silent host and no receive tick. -/
def Obligations.UnansweredReservationTimesOut : Prop :=
  ∀ (s : State) (c : Collector) (r : Request) (rest : List Request),
    s.running = true → s.txcPending = none → s.rxcNext = some c → c.countdown = 4 → c.en = true →
    s.ccq = [] → s.tcq = [] → s.answers = [] → decodeRequest r = .ok .txTick → s.inbox = r :: r :: r :: r :: rest →
    (∃ t, Host.Core.run Sys2Proof.core 3 s = .next t ∧ t.rxc = some { c with countdown := 1 }) ∧
    (∃ (t : State) (later : List Event), Host.Core.run Sys2Proof.core 4 s = .next t ∧ t.rxc = none ∧
      t.events = .rxc c.tag .timeout [] :: later ∧ ∀ tag st cws, Event.rxc tag st cws ∉ later)
end

