-- ==== Sys2Proof/Laws/Codec.lean ====
section
/-! SUPPORT. Bit fields, slices and the request forms, in the one spelling the codec's proofs use. -/

namespace Sys2Proof.Machine

@[simp] theorem field_toNat (w v : Nat) : (field w v).toNat = mask w v := BitVec.toNat_ofNat v w

@[simp] theorem mask48_toNat (v : Nat) : (mask48 v).toNat = mask 48 v := BitVec.toNat_ofNat v 48

theorem mask_lt (w v : Nat) : mask w v < 2 ^ w := Nat.mod_lt _ (Nat.two_pow_pos w)

/-- A field in range is not changed by its mask (R110). -/
theorem mask_of_fits {w v : Nat} (h : fits w v = true) : mask w v = v := Nat.mod_eq_of_lt (by simpa using h)

@[simp] theorem mask_mask (w v : Nat) : mask w (mask w v) = mask w v := Nat.mod_mod v (2 ^ w)

/-- Packing a masked value packs the value. -/
@[simp] theorem field_mask (w v : Nat) : field w (mask w v) = field w v := by
  apply BitVec.eq_of_toNat_eq; simp

/-- A slice as the bit vector of its bits (R7). -/
theorem slice_eq_extract (x : Codeword) (hi lo : Nat) : slice x hi lo = (x.extractLsb' lo (hi - lo + 1)).toNat := by
  simp [slice, BitVec.extractLsb', Nat.shiftRight_eq_div_pow]

theorem slice_lt (x : Codeword) (hi lo : Nat) : slice x hi lo < 2 ^ (hi - lo + 1) := Nat.mod_lt _ (Nat.two_pow_pos _)

/-- The value of two fields side by side. -/
theorem append_toNat_add {n m : Nat} (x : BitVec n) (y : BitVec m) : (x ++ y).toNat = x.toNat * 2 ^ m + y.toNat := by
  rw [BitVec.toNat_append, ← Nat.shiftLeft_add_eq_or_of_lt y.isLt, Nat.shiftLeft_eq]

/-- The kind of a `TxOut` in bits (R75). -/
theorem slot_kind (k : BitVec 2) (w : Codeword) : (k ++ w).toNat / 2 ^ 48 = k.toNat := by
  rw [append_toNat_add]; omega

/-- The data of a `TxOut` in bits (R75). -/
theorem slot_data (k : BitVec 2) (w : Codeword) : mask48 (k ++ w).toNat = w := by
  apply BitVec.eq_of_toNat_eq
  rw [append_toNat_add, mask48_toNat, mask]
  omega

/-! ### The value of each layout -/

/-- The value of an addressed word (R63). -/
theorem addrWord_toNat (pfix ident1 type func : Nat) (p : BitVec 18) : (addrWord pfix ident1 type func p).toNat =
    2 ^ 47 + mask 7 pfix * 2 ^ 40 + mask 13 ident1 * 2 ^ 27 + 2 ^ 26 + mask 2 type * 2 ^ 21 + mask 3 func * 2 ^ 18
      + p.toNat := by
  simp only [addrWord, append_toNat_add, field_toNat, BitVec.toNat_ofNat]; omega

/-- The value of a SAM word (R66). -/
theorem samisWord_toNat (p1 p2 : Nat) : (samisWord p1 p2).toNat =
    2 ^ 47 + mask 20 p1 * 2 ^ 27 + 2 ^ 26 + 2 ^ 23 + mask 20 p2 := by
  simp only [samisWord, append_toNat_add, field_toNat, BitVec.toNat_ofNat]; omega

/-- The value of a GTC word (R62). -/
theorem gtcWord_toNat (pfix ident1 d chan ident2 n2 : Nat) : (gtcWord pfix ident1 d chan ident2 n2).toNat =
    2 ^ 47 + mask 7 pfix * 2 ^ 40 + mask 13 ident1 * 2 ^ 27 + mask 1 d * 2 ^ 25 + mask 10 chan * 2 ^ 15
      + mask 13 ident2 * 2 ^ 2 + mask 2 n2 := by
  simp only [gtcWord, append_toNat_add, field_toNat, BitVec.toNat_ofNat]; omega

/-- The value of a CLEAR word (R64). -/
theorem clearWord_toNat (chan cont rsvd spare : Nat) : (clearWord chan cont rsvd spare).toNat =
    2 ^ 47 + mask 10 chan * 2 ^ 37 + mask 10 cont * 2 ^ 27 + 2 ^ 26 + 3 * 2 ^ 21 + 2 * 2 ^ 18 + mask 4 rsvd * 2 ^ 14
      + mask 2 spare * 2 ^ 12 + 0xAAA := by
  simp only [clearWord, append_toNat_add, field_toNat, BitVec.toNat_ofNat]; omega

/-- The value of a broadcast word (R65). -/
theorem bcastWord_toNat (sysdef p15 p18 : Nat) : (bcastWord sysdef p15 p18).toNat =
    2 ^ 47 + mask 5 sysdef * 2 ^ 42 + mask 15 p15 * 2 ^ 27 + 2 ^ 26 + 3 * 2 ^ 21 + 4 * 2 ^ 18 + mask 18 p18 := by
  simp only [bcastWord, append_toNat_add, field_toNat, BitVec.toNat_ofNat]; omega

/-- The value of a parameter field that begins with `IDENT2` (R67). -/
theorem ident2Param_toNat (ident2 : Nat) (low : BitVec 5) :
    (ident2Param ident2 low).toNat = mask 13 ident2 * 2 ^ 5 + low.toNat := by
  simp only [ident2Param, append_toNat_add, field_toNat]

/-- The value of five one-bit fields (R67). -/
theorem flags5_toNat (b4 b3 b2 b1 b0 : Nat) : (flags5 b4 b3 b2 b1 b0).toNat =
    mask 1 b4 * 2 ^ 4 + mask 1 b3 * 2 ^ 3 + mask 1 b2 * 2 ^ 2 + mask 1 b1 * 2 + mask 1 b0 := by
  simp only [flags5, append_toNat_add, field_toNat]; omega

/-- ENC and every codeword row: the result is the word, nothing else changes (R199). -/
@[simp] theorem answerCode_eq (v : Variant) (s : State) :
    answerCode v s = .next { s with result := .code (encode v), events := [] } := rfl

end Sys2Proof.Machine
end

