-- ==== Sys2Proof/Laws/Fcs.lean ====
section
/-! SUPPORT. The FCS engine is linear over GF(2) in its registers and its input (R91, R92). -/

namespace Sys2Proof.Machine

/-- The exclusive or of two register pairs. -/
def FcsRegs.xor (a b : FcsRegs) : FcsRegs := { ck := a.ck ^^^ b.ck, par := a.par ^^ b.par }

theorem fcsStep_xor (a b : FcsRegs) (x y : Bool) : fcsStep (a.xor b) (x ^^ y) = (fcsStep a x).xor (fcsStep b y) := by
  obtain ⟨ca, pa⟩ := a
  obtain ⟨cb, pb⟩ := b
  have hp : ∀ p q r t : Bool, ((p ^^ q) ^^ (r ^^ t)) = ((p ^^ r) ^^ (q ^^ t)) := by decide
  simp only [fcsStep, FcsRegs.xor, BitVec.getLsbD_xor, hp x y (ca.getLsbD 15) (cb.getLsbD 15), FcsRegs.mk.injEq]
  refine ⟨?_, hp pa pb x y⟩
  generalize (x ^^ ca.getLsbD 15) = f
  generalize (y ^^ cb.getLsbD 15) = g
  rw [← BitVec.shiftLeft_xor_distrib]
  cases f <;> cases g <;> simp [BitVec.xor_assoc, BitVec.xor_comm cb fcsPoly]

/-- The engine run over an exclusive or is the exclusive or of the runs. -/
theorem fcsRun_xor (u v : Codeword) (n : Nat) (a b : FcsRegs) :
    fcsRun (u ^^^ v) n (a.xor b) = (fcsRun u n a).xor (fcsRun v n b) := by
  induction n generalizing a b with
  | zero => rfl
  | succ n ih => rw [fcsRun, fcsRun, fcsRun, BitVec.getLsbD_xor, fcsStep_xor, ih]

theorem parityOf_xor (a b : Check) (n : Nat) : parityOf (a ^^^ b) n = (parityOf a n ^^ parityOf b n) := by
  induction n with
  | zero => rfl
  | succ n ih =>
    simp only [parityOf, BitVec.getLsbD_xor, ih]
    generalize a.getLsbD n = p
    generalize b.getLsbD n = q
    generalize parityOf a n = r
    generalize parityOf b n = t
    revert p q r t
    decide

end Sys2Proof.Machine
end

