-- ==== Sys2Proof/Laws/State.lean ====
section
/-! SUPPORT. One lemma per field for each whole-state update of Machine/Ops.lean, so that no proof unfolds a record update. -/

namespace Sys2Proof.Machine

/-! ### `begin` (log 6) -/

@[simp] theorem State.begin_cfg (s : State) : (s.begin).cfg = s.cfg := rfl
@[simp] theorem State.begin_state (s : State) : (s.begin).state = s.state := rfl
@[simp] theorem State.begin_af (s : State) : (s.begin).af = s.af := rfl
@[simp] theorem State.begin_rsv (s : State) : (s.begin).rsv = s.rsv := rfl
@[simp] theorem State.begin_running (s : State) : (s.begin).running = s.running := rfl
@[simp] theorem State.begin_identPending (s : State) : (s.begin).identPending = s.identPending := rfl
@[simp] theorem State.begin_txcPending (s : State) : (s.begin).txcPending = s.txcPending := rfl
@[simp] theorem State.begin_rxcNext (s : State) : (s.begin).rxcNext = s.rxcNext := rfl
@[simp] theorem State.begin_rxc (s : State) : (s.begin).rxc = s.rxc := rfl
@[simp] theorem State.begin_lastTx (s : State) : (s.begin).lastTx = s.lastTx := rfl
@[simp] theorem State.begin_ccq (s : State) : (s.begin).ccq = s.ccq := rfl
@[simp] theorem State.begin_tcq (s : State) : (s.begin).tcq = s.tcq := rfl
@[simp] theorem State.begin_inbox (s : State) : (s.begin).inbox = s.inbox := rfl
@[simp] theorem State.begin_txcAnswers (s : State) : (s.begin).txcAnswers = s.txcAnswers := rfl
@[simp] theorem State.begin_answers (s : State) : (s.begin).answers = s.answers := rfl
@[simp] theorem State.begin_result (s : State) : (s.begin).result = .nothing := rfl
@[simp] theorem State.begin_events (s : State) : (s.begin).events = [] := rfl

/-! ### `finish` (log 6) -/

@[simp] theorem State.finish_cfg (s : State) (r : Result) : (s.finish r).cfg = s.cfg := rfl
@[simp] theorem State.finish_state (s : State) (r : Result) : (s.finish r).state = s.state := rfl
@[simp] theorem State.finish_af (s : State) (r : Result) : (s.finish r).af = s.af := rfl
@[simp] theorem State.finish_rsv (s : State) (r : Result) : (s.finish r).rsv = s.rsv := rfl
@[simp] theorem State.finish_running (s : State) (r : Result) : (s.finish r).running = s.running := rfl
@[simp] theorem State.finish_identPending (s : State) (r : Result) : (s.finish r).identPending = s.identPending := rfl
@[simp] theorem State.finish_txcPending (s : State) (r : Result) : (s.finish r).txcPending = s.txcPending := rfl
@[simp] theorem State.finish_rxcNext (s : State) (r : Result) : (s.finish r).rxcNext = s.rxcNext := rfl
@[simp] theorem State.finish_rxc (s : State) (r : Result) : (s.finish r).rxc = s.rxc := rfl
@[simp] theorem State.finish_lastTx (s : State) (r : Result) : (s.finish r).lastTx = s.lastTx := rfl
@[simp] theorem State.finish_ccq (s : State) (r : Result) : (s.finish r).ccq = s.ccq := rfl
@[simp] theorem State.finish_tcq (s : State) (r : Result) : (s.finish r).tcq = s.tcq := rfl
@[simp] theorem State.finish_inbox (s : State) (r : Result) : (s.finish r).inbox = s.inbox := rfl
@[simp] theorem State.finish_txcAnswers (s : State) (r : Result) : (s.finish r).txcAnswers = s.txcAnswers := rfl
@[simp] theorem State.finish_answers (s : State) (r : Result) : (s.finish r).answers = s.answers := rfl
@[simp] theorem State.finish_result (s : State) (r : Result) : (s.finish r).result = r := rfl
@[simp] theorem State.finish_events (s : State) (r : Result) : (s.finish r).events = [] := rfl

/-! ### `setIdent` (R196) -/

@[simp] theorem State.setIdent_cfg (s : State) (p : Payload) : (s.setIdent p).cfg = s.cfg := rfl
@[simp] theorem State.setIdent_state (s : State) (p : Payload) : (s.setIdent p).state = s.state := rfl
@[simp] theorem State.setIdent_af (s : State) (p : Payload) : (s.setIdent p).af = s.af := rfl
@[simp] theorem State.setIdent_rsv (s : State) (p : Payload) : (s.setIdent p).rsv = s.rsv := rfl
@[simp] theorem State.setIdent_running (s : State) (p : Payload) : (s.setIdent p).running = s.running := rfl
@[simp] theorem State.setIdent_identPending (s : State) (p : Payload) : (s.setIdent p).identPending = some p := rfl
@[simp] theorem State.setIdent_txcPending (s : State) (p : Payload) : (s.setIdent p).txcPending = s.txcPending := rfl
@[simp] theorem State.setIdent_rxcNext (s : State) (p : Payload) : (s.setIdent p).rxcNext = s.rxcNext := rfl
@[simp] theorem State.setIdent_rxc (s : State) (p : Payload) : (s.setIdent p).rxc = s.rxc := rfl
@[simp] theorem State.setIdent_lastTx (s : State) (p : Payload) : (s.setIdent p).lastTx = s.lastTx := rfl
@[simp] theorem State.setIdent_ccq (s : State) (p : Payload) : (s.setIdent p).ccq = s.ccq := rfl
@[simp] theorem State.setIdent_tcq (s : State) (p : Payload) : (s.setIdent p).tcq = s.tcq := rfl
@[simp] theorem State.setIdent_inbox (s : State) (p : Payload) : (s.setIdent p).inbox = s.inbox := rfl
@[simp] theorem State.setIdent_txcAnswers (s : State) (p : Payload) : (s.setIdent p).txcAnswers = s.txcAnswers := rfl
@[simp] theorem State.setIdent_answers (s : State) (p : Payload) : (s.setIdent p).answers = s.answers := rfl
@[simp] theorem State.setIdent_result (s : State) (p : Payload) : (s.setIdent p).result = s.result := rfl
@[simp] theorem State.setIdent_events (s : State) (p : Payload) : (s.setIdent p).events = s.events := rfl

/-! ### `emit` (R255) -/

@[simp] theorem State.emit_cfg (s : State) (e : Event) : (s.emit e).cfg = s.cfg := rfl
@[simp] theorem State.emit_state (s : State) (e : Event) : (s.emit e).state = s.state := rfl
@[simp] theorem State.emit_af (s : State) (e : Event) : (s.emit e).af = s.af := rfl
@[simp] theorem State.emit_rsv (s : State) (e : Event) : (s.emit e).rsv = s.rsv := rfl
@[simp] theorem State.emit_running (s : State) (e : Event) : (s.emit e).running = s.running := rfl
@[simp] theorem State.emit_identPending (s : State) (e : Event) : (s.emit e).identPending = s.identPending := rfl
@[simp] theorem State.emit_txcPending (s : State) (e : Event) : (s.emit e).txcPending = s.txcPending := rfl
@[simp] theorem State.emit_rxcNext (s : State) (e : Event) : (s.emit e).rxcNext = s.rxcNext := rfl
@[simp] theorem State.emit_rxc (s : State) (e : Event) : (s.emit e).rxc = s.rxc := rfl
@[simp] theorem State.emit_lastTx (s : State) (e : Event) : (s.emit e).lastTx = s.lastTx := rfl
@[simp] theorem State.emit_ccq (s : State) (e : Event) : (s.emit e).ccq = s.ccq := rfl
@[simp] theorem State.emit_tcq (s : State) (e : Event) : (s.emit e).tcq = s.tcq := rfl
@[simp] theorem State.emit_inbox (s : State) (e : Event) : (s.emit e).inbox = s.inbox := rfl
@[simp] theorem State.emit_txcAnswers (s : State) (e : Event) : (s.emit e).txcAnswers = s.txcAnswers := rfl
@[simp] theorem State.emit_answers (s : State) (e : Event) : (s.emit e).answers = s.answers := rfl
@[simp] theorem State.emit_result (s : State) (e : Event) : (s.emit e).result = s.result := rfl
@[simp] theorem State.emit_events (s : State) (e : Event) : (s.emit e).events = s.events ++ [e] := rfl

/-! ### `resetRegisters` (R202) -/

@[simp] theorem State.resetRegisters_cfg (s : State) : (s.resetRegisters).cfg = s.cfg := rfl
@[simp] theorem State.resetRegisters_state (s : State) : (s.resetRegisters).state = s.cfg.initState := rfl
@[simp] theorem State.resetRegisters_af (s : State) : (s.resetRegisters).af = s.cfg.afReset := rfl
@[simp] theorem State.resetRegisters_rsv (s : State) : (s.resetRegisters).rsv = 0 := rfl
@[simp] theorem State.resetRegisters_running (s : State) : (s.resetRegisters).running = false := rfl
@[simp] theorem State.resetRegisters_identPending (s : State) : (s.resetRegisters).identPending = none := rfl
@[simp] theorem State.resetRegisters_txcPending (s : State) : (s.resetRegisters).txcPending = none := rfl
@[simp] theorem State.resetRegisters_rxcNext (s : State) : (s.resetRegisters).rxcNext = none := rfl
@[simp] theorem State.resetRegisters_rxc (s : State) : (s.resetRegisters).rxc = none := rfl
@[simp] theorem State.resetRegisters_lastTx (s : State) : (s.resetRegisters).lastTx = .none := rfl
@[simp] theorem State.resetRegisters_ccq (s : State) : (s.resetRegisters).ccq = [] := rfl
@[simp] theorem State.resetRegisters_tcq (s : State) : (s.resetRegisters).tcq = [] := rfl
@[simp] theorem State.resetRegisters_inbox (s : State) : (s.resetRegisters).inbox = s.inbox := rfl
@[simp] theorem State.resetRegisters_txcAnswers (s : State) : (s.resetRegisters).txcAnswers = s.txcAnswers := rfl
@[simp] theorem State.resetRegisters_answers (s : State) : (s.resetRegisters).answers = s.answers := rfl
@[simp] theorem State.resetRegisters_result (s : State) : (s.resetRegisters).result = s.result := rfl
@[simp] theorem State.resetRegisters_events (s : State) : (s.resetRegisters).events = s.events := rfl

/-! ### `takeFault` (R252) -/

@[simp] theorem State.takeFault_cfg (s : State) (d : Dir) (c : BitVec 8) : (s.takeFault d c).cfg = s.cfg := by cases d <;> rfl
@[simp] theorem State.takeFault_state (s : State) (d : Dir) (c : BitVec 8) : (s.takeFault d c).state = s.state := by cases d <;> rfl
@[simp] theorem State.takeFault_af (s : State) (d : Dir) (c : BitVec 8) : (s.takeFault d c).af = s.af := by cases d <;> rfl
@[simp] theorem State.takeFault_rsv (s : State) (d : Dir) (c : BitVec 8) : (s.takeFault d c).rsv = s.rsv := by cases d <;> rfl
@[simp] theorem State.takeFault_running (s : State) (d : Dir) (c : BitVec 8) : (s.takeFault d c).running = s.running := by cases d <;> rfl
@[simp] theorem State.takeFault_identPending (s : State) (d : Dir) (c : BitVec 8) : (s.takeFault d c).identPending = s.identPending := by cases d <;> rfl
@[simp] theorem State.takeFault_txcPending (s : State) (d : Dir) (c : BitVec 8) : (s.takeFault d c).txcPending = s.txcPending := by cases d <;> rfl
@[simp] theorem State.takeFault_rxcNext (s : State) (d : Dir) (c : BitVec 8) : (s.takeFault d c).rxcNext = s.rxcNext := by cases d <;> rfl
@[simp] theorem State.takeFault_rxc (s : State) (d : Dir) (c : BitVec 8) : (s.takeFault d c).rxc = s.rxc := by cases d <;> rfl
@[simp] theorem State.takeFault_lastTx (s : State) (d : Dir) (c : BitVec 8) : (s.takeFault d c).lastTx = s.lastTx := by cases d <;> rfl
@[simp] theorem State.takeFault_ccq (s : State) (d : Dir) (c : BitVec 8) : (s.takeFault d c).ccq = s.ccq := by cases d <;> rfl
@[simp] theorem State.takeFault_tcq (s : State) (d : Dir) (c : BitVec 8) : (s.takeFault d c).tcq = s.tcq := by cases d <;> rfl
@[simp] theorem State.takeFault_inbox (s : State) (d : Dir) (c : BitVec 8) : (s.takeFault d c).inbox = s.inbox := by cases d <;> rfl
@[simp] theorem State.takeFault_txcAnswers (s : State) (d : Dir) (c : BitVec 8) : (s.takeFault d c).txcAnswers = s.txcAnswers := by cases d <;> rfl
@[simp] theorem State.takeFault_answers (s : State) (d : Dir) (c : BitVec 8) : (s.takeFault d c).answers = s.answers := by cases d <;> rfl
@[simp] theorem State.takeFault_events (s : State) (d : Dir) (c : BitVec 8) : (s.takeFault d c).events = s.events ++ [.fault d c] := by cases d <;> rfl

@[simp] theorem State.takeFault_tx_result (s : State) (c : BitVec 8) : (s.takeFault .tx c).result = .slot .none := rfl
@[simp] theorem State.takeFault_rx_result (s : State) (c : BitVec 8) : (s.takeFault .rx c).result = .nothing := rfl

/-! ### `install` (R221) -/

@[simp] theorem State.install_cfg (s : State) (it : TxItem) : (s.install it).cfg = s.cfg := by
  by_cases h : 1 ≤ it.rlen <;> simp [State.install, h]
@[simp] theorem State.install_state (s : State) (it : TxItem) : (s.install it).state = s.state := by
  by_cases h : 1 ≤ it.rlen <;> simp [State.install, h]
@[simp] theorem State.install_af (s : State) (it : TxItem) : (s.install it).af = s.af := by
  by_cases h : 1 ≤ it.rlen <;> simp [State.install, h]
@[simp] theorem State.install_running (s : State) (it : TxItem) : (s.install it).running = s.running := by
  by_cases h : 1 ≤ it.rlen <;> simp [State.install, h]
@[simp] theorem State.install_identPending (s : State) (it : TxItem) : (s.install it).identPending = s.identPending := by
  by_cases h : 1 ≤ it.rlen <;> simp [State.install, h]
@[simp] theorem State.install_rxc (s : State) (it : TxItem) : (s.install it).rxc = s.rxc := by
  by_cases h : 1 ≤ it.rlen <;> simp [State.install, h]
@[simp] theorem State.install_lastTx (s : State) (it : TxItem) : (s.install it).lastTx = s.lastTx := by
  by_cases h : 1 ≤ it.rlen <;> simp [State.install, h]
@[simp] theorem State.install_ccq (s : State) (it : TxItem) : (s.install it).ccq = s.ccq := by
  by_cases h : 1 ≤ it.rlen <;> simp [State.install, h]
@[simp] theorem State.install_tcq (s : State) (it : TxItem) : (s.install it).tcq = s.tcq := by
  by_cases h : 1 ≤ it.rlen <;> simp [State.install, h]
@[simp] theorem State.install_inbox (s : State) (it : TxItem) : (s.install it).inbox = s.inbox := by
  by_cases h : 1 ≤ it.rlen <;> simp [State.install, h]
@[simp] theorem State.install_txcAnswers (s : State) (it : TxItem) : (s.install it).txcAnswers = s.txcAnswers := by
  by_cases h : 1 ≤ it.rlen <;> simp [State.install, h]
@[simp] theorem State.install_answers (s : State) (it : TxItem) : (s.install it).answers = s.answers := by
  by_cases h : 1 ≤ it.rlen <;> simp [State.install, h]
@[simp] theorem State.install_result (s : State) (it : TxItem) : (s.install it).result = s.result := by
  by_cases h : 1 ≤ it.rlen <;> simp [State.install, h]
@[simp] theorem State.install_events (s : State) (it : TxItem) : (s.install it).events = s.events := by
  by_cases h : 1 ≤ it.rlen <;> simp [State.install, h]

@[simp] theorem State.install_txcPending (s : State) (it : TxItem) :
    (s.install it).txcPending = if it.txcEn then some it.txcTag else none := by
  by_cases h : 1 ≤ it.rlen <;> simp [State.install, h]

theorem State.install_rxcNext (s : State) (it : TxItem) :
    (s.install it).rxcNext = if 1 ≤ it.rlen then some (collectorOf it) else s.rxcNext := by
  by_cases h : 1 ≤ it.rlen <;> simp [State.install, h]

theorem State.install_rsv (s : State) (it : TxItem) :
    (s.install it).rsv = if 1 ≤ it.rlen then it.rlen else s.rsv := by
  by_cases h : 1 ≤ it.rlen <;> simp [State.install, h]

end Sys2Proof.Machine
end

