-- ==== Sys2Proof/Laws/Ops.lean ====
section
/-! SUPPORT. For each shared operation of Machine/Ops.lean one lemma that says once what it can do. -/

namespace Sys2Proof.Machine

open Sys2Proof.Spec

/-- A queue accepts an item exactly where the format carries it and there is room, and then appends it. -/
theorem accept_ok {c : Config} {q q' : List TxItem} {it : ItemOperand} :
    accept c q it = .ok q' ↔ it.representable c = true ∧ queueFull c q = false ∧ q' = q ++ [it.toItem] := by
  unfold accept
  cases it.representable c <;> cases queueFull c q <;> simp [eq_comm]

theorem State.pushCC_ok {s t : State} {it : ItemOperand} : s.pushCC it = .ok t ↔
    it.representable s.cfg = true ∧ queueFull s.cfg s.ccq = false ∧ t = { s with ccq := s.ccq ++ [it.toItem] } := by
  unfold State.pushCC
  cases h : accept s.cfg s.ccq it with
  | ok q => obtain ⟨h1, h2, rfl⟩ := accept_ok.mp h; simp [h1, h2, eq_comm]
  | error r =>
    simp only [reduceCtorEq, false_iff]
    rintro ⟨h1, h2, -⟩
    rw [accept_ok.mpr ⟨h1, h2, rfl⟩] at h
    cases h

theorem State.pushTC_ok {s t : State} {it : ItemOperand} : s.pushTC it = .ok t ↔
    it.representable s.cfg = true ∧ queueFull s.cfg s.tcq = false ∧ t = { s with tcq := s.tcq ++ [it.toItem] } := by
  unfold State.pushTC
  cases h : accept s.cfg s.tcq it with
  | ok q => obtain ⟨h1, h2, rfl⟩ := accept_ok.mp h; simp [h1, h2, eq_comm]
  | error r =>
    simp only [reduceCtorEq, false_iff]
    rintro ⟨h1, h2, -⟩
    rw [accept_ok.mpr ⟨h1, h2, rfl⟩] at h
    cases h

/-- What a list of operations leaves where it is applied whole: items appended to their queues, the last payload pending. -/
def State.applied (s : State) (ops : List Instr) : State :=
  { s with
    ccq := s.ccq ++ controlItems ops
    tcq := s.tcq ++ trafficItems ops
    identPending := identAfter s.identPending ops }

/-- The condition on the queues under which the items of a list fit where they are put (R53, R73). -/
structure Accepted (s : State) (ops : List Instr) : Prop where
  legal : opsLegal s.cfg ops = true
  depthCC : ∀ d, s.cfg.qdepth = some d → controlItems ops ≠ [] → s.ccq.length + (controlItems ops).length ≤ d
  depthTC : ∀ d, s.cfg.qdepth = some d → trafficItems ops ≠ [] → s.tcq.length + (trafficItems ops).length ≤ d

theorem queueFull_false {c : Config} {q : List TxItem} :
    queueFull c q = false ↔ ∀ d, c.qdepth = some d → q.length < d := by
  unfold queueFull
  cases c.qdepth <;> simp

/-- Everything `Apply` can do. -/
theorem applyOps_ok {s t : State} {ops : List Instr} (h : applyOps s ops = .ok t) :
    t = s.applied ops ∧ Accepted s ops := by
  induction ops generalizing s with
  | nil =>
    obtain rfl : s = t := by simpa [applyOps] using h
    exact ⟨by simp [State.applied, controlItems, trafficItems, identAfter],
      ⟨rfl, fun _ _ h => absurd rfl h, fun _ _ h => absurd rfl h⟩⟩
  | cons op rest ih =>
    unfold applyOps at h
    cases h1 : applyOp s op with
    | error r => rw [h1] at h; cases h
    | ok s' =>
      rw [h1] at h
      obtain ⟨rfl, ha⟩ := ih h
      cases op <;> simp only [applyOp, reduceCtorEq] at h1
      case enqCC it =>
        obtain ⟨hr, hq, rfl⟩ := State.pushCC_ok.mp h1
        refine ⟨by simp [State.applied, controlItems, trafficItems, identAfter], ⟨?_, ?_, ha.depthTC⟩⟩
        · simpa [opsLegal, opPermitted, operandLegal, hr] using ha.legal
        · intro d hd _
          have := ha.depthCC d hd
          have := queueFull_false.mp hq d hd
          cases hc : controlItems rest <;> simp_all [controlItems]; omega
      case enqTC it =>
        obtain ⟨hr, hq, rfl⟩ := State.pushTC_ok.mp h1
        refine ⟨by simp [State.applied, controlItems, trafficItems, identAfter], ⟨?_, ha.depthCC, ?_⟩⟩
        · simpa [opsLegal, opPermitted, operandLegal, hr] using ha.legal
        · intro d hd _
          have := ha.depthTC d hd
          have := queueFull_false.mp hq d hd
          cases hc : trafficItems rest <;> simp_all [trafficItems]; omega
      case setIdent p =>
        obtain rfl : s.setIdent p = s' := by simpa using h1
        refine ⟨by simp [State.applied, controlItems, trafficItems, identAfter, State.setIdent],
          ⟨?_, ha.depthCC, ha.depthTC⟩⟩
        simpa [opsLegal, opPermitted, operandLegal] using ha.legal

/-- Everything the override of `EV_TXC` can do. -/
theorem State.override_ok {s t : State} {o : Option (BitVec 3)} (h : s.override o = .ok t) :
    overrideLegal o = true ∧ t = { s with state := (o.bind SeqState.ofCode).getD s.state } := by
  unfold State.override at h
  cases o with
  | none => cases h; simp [overrideLegal]
  | some b =>
    simp only at h
    cases hb : SeqState.ofCode b with
    | none => rw [hb] at h; cases h
    | some st =>
      rw [hb] at h
      cases h
      refine ⟨?_, by simp [hb]⟩
      revert hb
      revert st
      revert b
      decide +revert

/-- Everything the call of `EV_TXC` can do. -/
theorem State.callTxc_ok {s t : State} {tag : Tag} (h : s.callTxc tag = .ok t) :
    overrideLegal s.nextTxcAnswer.newState = true ∧ Accepted s s.nextTxcAnswer.ops ∧
      t = { s.applied s.nextTxcAnswer.ops with
        txcAnswers := s.txcAnswers.tail
        events := s.events ++ [.txc tag]
        state := (s.nextTxcAnswer.newState.bind SeqState.ofCode).getD s.state } := by
  unfold State.callTxc at h
  cases h1 : applyOps { s.emit (.txc tag) with txcAnswers := s.txcAnswers.tail } s.nextTxcAnswer.ops with
  | error r => rw [h1] at h; cases h
  | ok s' =>
    rw [h1] at h
    obtain ⟨rfl, ha⟩ := applyOps_ok h1
    obtain ⟨ho, rfl⟩ := State.override_ok h
    exact ⟨ho, ⟨ha.legal, ha.depthCC, ha.depthTC⟩, rfl⟩

/-- Everything the call of `EV_RXC` or `EV_RXFWD` can do. -/
theorem State.call_ok {s t : State} {e : Event} (h : s.call e = .ok t) :
    Accepted s s.nextAnswer ∧
      t = { s.applied s.nextAnswer with answers := s.answers.tail, events := s.events ++ [e] } := by
  obtain ⟨rfl, ha⟩ := applyOps_ok h
  exact ⟨⟨ha.legal, ha.depthCC, ha.depthTC⟩, rfl⟩

theorem conclude_next {r : Except Refusal State} {t : State} : conclude r = .next t ↔ r = .ok t := by
  cases r <;> simp [conclude]

end Sys2Proof.Machine
end

