-- ==== Sys2Proof/Laws/PerInstr.lean ====
section
/-! SUPPORT. The family RequestShape: the encoder never writes a reserved request (R70, R72, R75): a transmit-side word has
`TxOut` kind 1 or 2, a transaction a code of 0 to 12. -/

namespace Sys2Proof.Laws

open Sys2Proof.Machine

/-- A request that is not reserved. -/
def Unreserved : Request → Prop
  | .slot bits => bits.toNat / 2 ^ 48 = 1 ∨ bits.toNat / 2 ^ 48 = 2
  | .heard _ => True
  | .transaction code _ => code.toNat ≤ 12

/-- The request that carries the instruction is not reserved. -/
def RequestShape.Statement (i : Instr) : Prop := Unreserved (encodeRequest i)

theorem unreserved_sent (v : Variant) : Unreserved (sentRequest v) := .inl (slot_kind 1#2 (encode v))

theorem unreserved_heard (v : Variant) : Unreserved (heardRequest v) := trivial

theorem unreserved_transaction (code : BitVec 4) (ws : List Nat) (h : code.toNat ≤ 12) :
    Unreserved (.transaction code ws) := h

theorem RequestShape.ccsc (sys : Nat) : RequestShape.Statement (.ccsc sys) := unreserved_sent _

theorem RequestShape.dcsc (sys : Nat) : RequestShape.Statement (.dcsc sys) := unreserved_sent _

theorem RequestShape.gtc (pfix ident1 d chan ident2 n2 : Nat) : RequestShape.Statement (.gtc pfix ident1 d chan ident2 n2) :=
  unreserved_sent _

theorem RequestShape.alh (pfix ident1 chan4 wt rsvd m n : Nat) : RequestShape.Statement (.alh pfix ident1 chan4 wt rsvd m n) :=
  unreserved_sent _

theorem RequestShape.alhs (pfix ident1 chan4 wt rsvd m n : Nat) : RequestShape.Statement (.alhs pfix ident1 chan4 wt rsvd m n) :=
  unreserved_sent _

theorem RequestShape.alhd (pfix ident1 chan4 wt rsvd m n : Nat) : RequestShape.Statement (.alhd pfix ident1 chan4 wt rsvd m n) :=
  unreserved_sent _

theorem RequestShape.alhe (pfix ident1 chan4 wt rsvd m n : Nat) : RequestShape.Statement (.alhe pfix ident1 chan4 wt rsvd m n) :=
  unreserved_sent _

theorem RequestShape.alhr (pfix ident1 chan4 wt rsvd m n : Nat) : RequestShape.Statement (.alhr pfix ident1 chan4 wt rsvd m n) :=
  unreserved_sent _

theorem RequestShape.alhx (pfix ident1 chan4 wt rsvd m n : Nat) : RequestShape.Statement (.alhx pfix ident1 chan4 wt rsvd m n) :=
  unreserved_sent _

theorem RequestShape.alhf (pfix ident1 chan4 wt rsvd m n : Nat) : RequestShape.Statement (.alhf pfix ident1 chan4 wt rsvd m n) :=
  unreserved_sent _

theorem RequestShape.ack (pfix ident1 ident2 qual n : Nat) : RequestShape.Statement (.ack pfix ident1 ident2 qual n) :=
  unreserved_sent _

theorem RequestShape.acki (pfix ident1 ident2 qual n : Nat) : RequestShape.Statement (.acki pfix ident1 ident2 qual n) :=
  unreserved_sent _

theorem RequestShape.ackq (pfix ident1 ident2 qual n : Nat) : RequestShape.Statement (.ackq pfix ident1 ident2 qual n) :=
  unreserved_sent _

theorem RequestShape.ackx (pfix ident1 ident2 qual n : Nat) : RequestShape.Statement (.ackx pfix ident1 ident2 qual n) :=
  unreserved_sent _

theorem RequestShape.ackv (pfix ident1 ident2 qual n : Nat) : RequestShape.Statement (.ackv pfix ident1 ident2 qual n) :=
  unreserved_sent _

theorem RequestShape.acke (pfix ident1 ident2 qual n : Nat) : RequestShape.Statement (.acke pfix ident1 ident2 qual n) :=
  unreserved_sent _

theorem RequestShape.ackt (pfix ident1 ident2 qual n : Nat) : RequestShape.Statement (.ackt pfix ident1 ident2 qual n) :=
  unreserved_sent _

theorem RequestShape.ackb (pfix ident1 ident2 qual n : Nat) : RequestShape.Statement (.ackb pfix ident1 ident2 qual n) :=
  unreserved_sent _

theorem RequestShape.ahy (pfix ident1 ident2 d point check e ad : Nat) : RequestShape.Statement (.ahy pfix ident1 ident2 d point check e ad) :=
  unreserved_sent _

theorem RequestShape.ahyx (pfix ident1 ident2 rsvd : Nat) : RequestShape.Statement (.ahyx pfix ident1 ident2 rsvd) :=
  unreserved_sent _

theorem RequestShape.ahyq (pfix ident1 ident2 status : Nat) : RequestShape.Statement (.ahyq pfix ident1 ident2 status) :=
  unreserved_sent _

theorem RequestShape.ahyc (pfix ident1 ident2 slots desc : Nat) : RequestShape.Statement (.ahyc pfix ident1 ident2 slots desc) :=
  unreserved_sent _

theorem RequestShape.rqs (pfix ident1 ident2 dt level ext flag1 flag2 : Nat) : RequestShape.Statement (.rqs pfix ident1 ident2 dt level ext flag1 flag2) :=
  unreserved_heard _

theorem RequestShape.rqx (pfix ident1 ident2 rsvd : Nat) : RequestShape.Statement (.rqx pfix ident1 ident2 rsvd) :=
  unreserved_heard _

theorem RequestShape.rqt (pfix ident1 ident2 sd div flag1 flag2 : Nat) : RequestShape.Statement (.rqt pfix ident1 ident2 sd div flag1 flag2) :=
  unreserved_heard _

theorem RequestShape.rqe (pfix ident1 ident2 d rsvd ext flag1 flag2 : Nat) : RequestShape.Statement (.rqe pfix ident1 ident2 d rsvd ext flag1 flag2) :=
  unreserved_heard _

theorem RequestShape.rqr (pfix ident1 info rsvd : Nat) : RequestShape.Statement (.rqr pfix ident1 info rsvd) :=
  unreserved_heard _

theorem RequestShape.rqq (pfix ident1 ident2 status : Nat) : RequestShape.Statement (.rqq pfix ident1 ident2 status) :=
  unreserved_heard _

theorem RequestShape.rqc (pfix ident1 ident2 slots ext flag1 flag2 : Nat) : RequestShape.Statement (.rqc pfix ident1 ident2 slots ext flag1 flag2) :=
  unreserved_heard _

theorem RequestShape.maint (pfix ident1 chan oper rsvd spare : Nat) : RequestShape.Statement (.maint pfix ident1 chan oper rsvd spare) :=
  unreserved_sent _

theorem RequestShape.clear (chan cont rsvd spare : Nat) : RequestShape.Statement (.clear chan cont rsvd spare) :=
  unreserved_sent _

theorem RequestShape.move (pfix ident1 cont m2 rsvd spare : Nat) : RequestShape.Statement (.move pfix ident1 cont m2 rsvd spare) :=
  unreserved_sent _

theorem RequestShape.bcast (sysdef p15 p18 : Nat) : RequestShape.Statement (.bcast sysdef p15 p18) := unreserved_sent _

theorem RequestShape.bcastAnn (sys chan spare rsvd : Nat) : RequestShape.Statement (.bcastAnn sys chan spare rsvd) :=
  unreserved_sent _

theorem RequestShape.bcastWdr (sys chan spare rsvd : Nat) : RequestShape.Statement (.bcastWdr sys chan spare rsvd) :=
  unreserved_sent _

theorem RequestShape.bcastMaint (sys per ival pon ident rsvd spare : Nat) : RequestShape.Statement (.bcastMaint sys per ival pon ident rsvd spare) :=
  unreserved_sent _

theorem RequestShape.bcastReg (sys rsvd spare : Nat) : RequestShape.Statement (.bcastReg sys rsvd spare) :=
  unreserved_sent _

theorem RequestShape.bcastAdj (sys chan spare rsvd adjsite : Nat) : RequestShape.Statement (.bcastAdj sys chan spare rsvd adjsite) :=
  unreserved_sent _

theorem RequestShape.bcastVote (sys chan spare rsvd adjsite : Nat) : RequestShape.Statement (.bcastVote sys chan spare rsvd adjsite) :=
  unreserved_sent _

theorem RequestShape.samis (p1 p2 : Nat) : RequestShape.Statement (.samis p1 p2) := unreserved_heard _

theorem RequestShape.traffic : RequestShape.Statement .traffic := .inr (slot_kind 2#2 0#48)

theorem RequestShape.nop : RequestShape.Statement .nop := unreserved_transaction _ _ (by decide)

theorem RequestShape.start : RequestShape.Statement .start := unreserved_transaction _ _ (by decide)

theorem RequestShape.stop : RequestShape.Statement .stop := unreserved_transaction _ _ (by decide)

theorem RequestShape.enqCC (it : ItemOperand) : RequestShape.Statement (.enqCC it) :=
  unreserved_transaction _ _ (by decide)

theorem RequestShape.enqTC (it : ItemOperand) : RequestShape.Statement (.enqTC it) :=
  unreserved_transaction _ _ (by decide)

theorem RequestShape.setIdent (p : Payload) : RequestShape.Statement (.setIdent p) :=
  unreserved_transaction _ _ (by decide)

theorem RequestShape.txTick : RequestShape.Statement .txTick := unreserved_transaction _ _ (by decide)

theorem RequestShape.rxTick (v : Nat) : RequestShape.Statement (.rxTick v) := unreserved_transaction _ _ (by decide)

theorem RequestShape.identDone : RequestShape.Statement .identDone := unreserved_transaction _ _ (by decide)

theorem RequestShape.fcs (v : Nat) : RequestShape.Statement (.fcs v) := unreserved_transaction _ _ (by decide)

theorem RequestShape.enc (v : Variant) : RequestShape.Statement (.enc v) := unreserved_transaction _ _ (by decide)

theorem RequestShape.dec (v : Nat) : RequestShape.Statement (.dec v) := unreserved_transaction _ _ (by decide)

theorem RequestShape.reset : RequestShape.Statement .reset := unreserved_transaction _ _ (by decide)

end Sys2Proof.Laws
end

