-- ==== Sys2Proof/Laws/RxTick.lean ====
section
/-! SUPPORT. What the receive tick can do, once (Machine/RxTick.lean). -/

namespace Sys2Proof.Machine

/-- Where the collector path ends when it is not refused (R242). -/
def State.collected (s : State) (c : Collector) (cw : Codeword) : State :=
  if c.remaining ≤ 1 then
    if c.en then
      { s.applied s.nextAnswer with
        rxc := none
        answers := s.answers.tail
        events := s.events ++ [.rxc c.tag .success (c.acc ++ [cw])] }
    else { s with rxc := none }
  else { s with rxc := some { c with acc := c.acc ++ [cw], countdown := rxcTimeout, remaining := c.remaining - 1 } }

/-- Everything the collector path can do. -/
theorem State.collect_ok {s t : State} {c : Collector} {cw : Codeword} (h : s.collect c cw = .ok t) :
    t = s.collected c cw ∧ (c.remaining ≤ 1 → c.en = true → Accepted s s.nextAnswer) := by
  unfold State.collect at h
  unfold State.collected
  by_cases hz : c.remaining ≤ 1
  · have hz' : c.remaining - 1 = 0 := by omega
    simp only [hz', ↓reduceIte] at h
    cases he : c.en with
    | false => rw [he] at h; cases h; simp [hz]
    | true =>
      rw [he] at h
      obtain ⟨ha, rfl⟩ := State.call_ok h
      exact ⟨by simp [hz, State.applied, State.nextAnswer], fun _ _ => ⟨ha.legal, ha.depthCC, ha.depthTC⟩⟩
  · have hz' : ¬ c.remaining - 1 = 0 := by omega
    simp only [hz', ↓reduceIte] at h
    cases h
    exact ⟨by simp [hz], fun h => absurd h hz⟩

/-- Everything the decode path can do (R243). -/
theorem State.forward_ok {s t : State} {cw : Codeword} (h : s.forward cw = .ok t) :
    (decode cw = none ∧ t = s) ∨
    ∃ d, decode cw = some d ∧ Accepted s s.nextAnswer ∧
      t = { s.applied s.nextAnswer with answers := s.answers.tail, events := s.events ++ [.rxfwd s.cfg.chId d] } := by
  unfold State.forward at h
  cases hd : decode cw with
  | none => rw [hd] at h; cases h; exact .inl ⟨rfl, rfl⟩
  | some d =>
    rw [hd] at h
    obtain ⟨ha, rfl⟩ := State.call_ok h
    exact .inr ⟨d, rfl, ha, rfl⟩

/-- Everything RX_TICK can do. -/
theorem execRxTick_next {v : Nat} {s t : State} : execRxTick v s = .next t ↔
    (s.running = true ∧ ((∃ c, s.rxc = some c ∧ s.begin.collect c (mask48 v) = .ok t) ∨
      (s.rxc = none ∧ s.begin.forward (mask48 v) = .ok t))) ∨
    (s.running = false ∧ t = s.begin) := by
  unfold execRxTick State.receive
  cases hr : s.running <;> cases hc : s.rxc <;> simp [hc, conclude_next, eq_comm (a := s.begin)]

end Sys2Proof.Machine
end

