-- ==== Sys2Proof/Laws/TxTick.lean ====
section
/-! SUPPORT. What each step of the transmit tick can do, once (Machine/TxTick.lean). -/

namespace Sys2Proof.Machine

open Sys2Proof.Spec

/-- Where step 1 ends when it is not refused (R212). -/
def State.afterStep1 (s : State) : State :=
  match s.txcPending with
  | none => s
  | some tag =>
    { s.applied s.nextTxcAnswer.ops with
      txcPending := none
      txcAnswers := s.txcAnswers.tail
      events := s.events ++ [.txc tag]
      state := (s.nextTxcAnswer.newState.bind SeqState.ofCode).getD s.state }

/-- Everything step 1 can do. -/
theorem State.step1_ok {s t : State} (h : s.step1 = .ok t) :
    t = s.afterStep1 ∧ (s.txcPending ≠ none →
      overrideLegal s.nextTxcAnswer.newState = true ∧ Accepted s s.nextTxcAnswer.ops) := by
  unfold State.step1 at h
  unfold State.afterStep1
  cases hp : s.txcPending with
  | none => rw [hp] at h; cases h; simp
  | some tag =>
    rw [hp] at h
    obtain ⟨ho, ha, rfl⟩ := State.callTxc_ok h
    exact ⟨rfl, fun _ => ⟨ho, ⟨ha.legal, ha.depthCC, ha.depthTC⟩⟩⟩

/-- Step 2 moves the staged collector, if there is one, into the slot (R213). -/
theorem State.step2_eq (s : State) : s.step2 = { s with rxc := s.rxcNext.or s.rxc, rxcNext := none } := by
  unfold State.step2
  cases h : s.rxcNext with
  | none => exact congrArg (fun x => { s with rxcNext := x }) h
  | some c => simp

/-- Where step 3 ends when it is not refused (R214). -/
def State.afterStep3 (s : State) : State :=
  match s.rxc with
  | none => s
  | some c =>
    if c.countdown ≤ 1 then
      if c.en then
        { s.applied s.nextAnswer with
          rxc := none
          answers := s.answers.tail
          events := s.events ++ [.rxc c.tag .timeout []] }
      else { s with rxc := none }
    else { s with rxc := some { c with countdown := c.countdown - 1 } }

/-- Everything step 3 can do. -/
theorem State.step3_ok {s t : State} (h : s.step3 = .ok t) :
    t = s.afterStep3 ∧
      (∀ c, s.rxc = some c → c.countdown ≤ 1 → c.en = true → Accepted s s.nextAnswer) := by
  unfold State.step3 at h
  unfold State.afterStep3
  cases hc : s.rxc with
  | none => rw [hc] at h; cases h; simp
  | some c =>
    rw [hc] at h
    by_cases hz : c.countdown ≤ 1
    · have hz' : c.countdown - 1 = 0 := by omega
      simp only [hz', State.timeOut, ↓reduceIte] at h
      cases he : c.en with
      | false => rw [he] at h; cases h; simp [hz, he]
      | true =>
        rw [he] at h
        obtain ⟨ha, rfl⟩ := State.call_ok h
        refine ⟨by simp [hz, he, State.applied, State.nextAnswer], fun _ _ _ _ => ?_⟩
        exact ⟨ha.legal, ha.depthCC, ha.depthTC⟩
    · have hz' : ¬ c.countdown - 1 = 0 := by omega
      simp only [hz', ↓reduceIte] at h
      cases h
      refine ⟨by simp [hz], fun c' h' => ?_⟩
      cases h'
      exact fun h => absurd h hz

/-- Two lists of operations applied one after the other leave what their join leaves. -/
theorem controlItems_append (a b : List Instr) : controlItems (a ++ b) = controlItems a ++ controlItems b := by
  induction a with
  | nil => rfl
  | cons op rest ih => cases op <;> simp [controlItems, ih]

theorem trafficItems_append (a b : List Instr) : trafficItems (a ++ b) = trafficItems a ++ trafficItems b := by
  induction a with
  | nil => rfl
  | cons op rest ih => cases op <;> simp [trafficItems, ih]

theorem identAfter_append (p : Option Payload) (a b : List Instr) :
    identAfter p (a ++ b) = identAfter (identAfter p a) b := by
  induction a generalizing p with
  | nil => rfl
  | cons op rest ih => cases op <;> simp [identAfter, ih]

/-- What step 4 of a tick sees of the queues, the payload, the frame counter and the completion slots, and the events raised
before it. -/
theorem State.beforeStep4 (s : State) (hl : CountdownLive s) :
    let u := s.begin.afterStep1.step2.afterStep3
    u.ccq = s.ccq ++ controlItems (earlierOps s) ∧
    u.tcq = s.tcq ++ trafficItems (earlierOps s) ∧
    u.identPending = identAfter s.identPending (earlierOps s) ∧
    u.af = s.af ∧ u.txcPending = none ∧ u.rxcNext = none ∧
    u.events = s.txcPending.toList.map Event.txc ++
      ((countedCollector s).toList.filter fun k => decide (k.countdown = 1) && k.en).map
        (fun k => Event.rxc k.tag .timeout []) := by
  have hc : s.begin.afterStep1.step2.rxc = countedCollector s := by
    rw [State.step2_eq]
    unfold State.afterStep1
    cases hp : s.begin.txcPending <;> rfl
  unfold State.afterStep3 earlierOps
  rw [hc]
  cases hk : countedCollector s with
  | none =>
    rw [State.step2_eq]
    unfold State.afterStep1
    cases hp : s.txcPending <;> simp [hp, State.applied, State.nextTxcAnswer, controlItems, trafficItems, identAfter]
  | some k =>
    have h1 := hl k hk
    have h2 : k.countdown ≤ 1 ↔ k.countdown = 1 := by omega
    rw [State.step2_eq]
    unfold State.afterStep1
    by_cases h3 : k.countdown = 1 <;> cases he : k.en <;> cases hp : s.txcPending <;>
      simp [h2, h3, he, hp, State.applied, State.nextTxcAnswer, State.nextAnswer, controlItems, trafficItems, identAfter,
        controlItems_append, trafficItems_append, identAfter_append]

/-- Everything steps 4 and 5 can do: the ten rows of the dispatch (R215 to R222, R252). -/
theorem State.step4_close_cases (s : State) :
    (∃ p, s.state = .beginFrame ∧ s.identPending = some p ∧ s.af = 0 ∧ s.step4.close =
      { s with identPending := none, state := .identInProgress, lastTx := .none, result := .slot .none,
               events := s.events ++ [.identStart p] }) ∨
    (s.state = .beginFrame ∧ (s.identPending = none ∨ s.af ≠ 0) ∧ s.step4.close =
      { s with state := .controlCodeword, lastTx := .cw (syncCW s.cfg.syscode .ccsc),
               result := .slot (.cw (syncCW s.cfg.syscode .ccsc)) }) ∨
    (s.state = .controlCodeword ∧ 2 ≤ s.rsv ∧ s.step4.close =
      { s with state := .beginFrame, af := s.alohaStep.1, rsv := s.rsv - 1, lastTx := .cw s.cfg.fillerCw,
               result := .slot (.cw s.cfg.fillerCw) }) ∨
    (∃ it rest, s.state = .controlCodeword ∧ s.rsv ≤ 1 ∧ s.ccq = it :: rest ∧ s.step4.close =
      { withCompletionsOf it { s with state := .beginFrame, af := s.alohaStep.1, rsv := 0, ccq := rest } with
        lastTx := .cw it.cw, result := .slot (.cw it.cw) }) ∨
    (s.state = .controlCodeword ∧ s.rsv ≤ 1 ∧ s.ccq = [] ∧ s.step4.close =
      { s with state := .beginFrame, af := s.alohaStep.1, rsv := 0, lastTx := .cw (idleAlh s.cfg s.alohaStep.2.val),
               result := .slot (.cw (idleAlh s.cfg s.alohaStep.2.val)) }) ∨
    (s.state = .trafficQuiescent ∧ s.tcq ≠ [] ∧ s.step4.close =
      { s with state := .trafficCodeword, af := 0, lastTx := .mark, result := .slot .mark }) ∨
    (s.state = .trafficQuiescent ∧ s.tcq = [] ∧ s.step4.close =
      { s with af := 0, lastTx := .none, result := .slot .none }) ∨
    (∃ it rest, s.state = .trafficCodeword ∧ s.tcq = it :: rest ∧ s.step4.close =
      { withCompletionsOf it { s with state := .trafficQuiescent, tcq := rest } with
        lastTx := .cw it.cw, result := .slot (.cw it.cw) }) ∨
    (s.state = .trafficCodeword ∧ s.tcq = [] ∧ s.step4.close =
      { s with state := .trafficQuiescent, result := .slot .none, events := s.events ++ [.fault .tx tqUnderflow] }) ∨
    (s.state = .identInProgress ∧ s.step4.close = { s with lastTx := .none, result := .slot .none }) := by
  unfold State.step4
  cases hs : s.state with
  | beginFrame =>
    cases hi : s.identPending with
    | none => simp [State.state0, hi, Slot.close]
    | some p =>
      by_cases ha : s.af = 0
      · simp [State.state0, hi, Slot.close, State.atStartBoundary, ha, State.emit]
      · simp [State.state0, hi, Slot.close, State.atStartBoundary, ha]
  | controlCodeword =>
    have h0 : s.rsv = 0 ∨ s.rsv = 1 ∨ 2 ≤ s.rsv := by omega
    rcases h0 with h0 | h0 | h0
    · cases hq : s.ccq with
      | nil => simp [State.state1, Slot.close, State.reservationActive, h0, State.serveControl, hq, State.alohaStep]
      | cons it rest =>
        by_cases hr : 1 ≤ it.rlen <;>
        simp [State.state1, Slot.close, State.reservationActive, h0, State.serveControl, hq, State.install,
          withCompletionsOf, collectorOf, rxcTimeout, State.alohaStep, hr]
    · cases hq : s.ccq with
      | nil => simp [State.state1, Slot.close, State.reservationActive, h0, State.serveControl, hq, State.alohaStep]
      | cons it rest =>
        by_cases hr : 1 ≤ it.rlen <;>
        simp [State.state1, Slot.close, State.reservationActive, h0, State.serveControl, hq, State.install,
          withCompletionsOf, collectorOf, rxcTimeout, State.alohaStep, hr]
    · have h1 : 0 < s.rsv := by omega
      have h2 : 0 < s.rsv - 1 := by omega
      have h3 : ¬ s.rsv ≤ 1 := by omega
      simp [State.state1, Slot.close, State.reservationActive, h0, h1, h2, h3, State.alohaStep]
  | trafficQuiescent => cases hq : s.tcq <;> simp [State.state2, queueNonEmpty, hq, Slot.close, hs]
  | trafficCodeword =>
    cases hq : s.tcq with
    | nil => simp [State.state3, hq, Slot.close, State.takeFault, State.emit]
    | cons it rest =>
      by_cases hr : 1 ≤ it.rlen <;>
      simp [State.state3, hq, Slot.close, State.install, withCompletionsOf, collectorOf, rxcTimeout, hr]
  | identInProgress => simp [Slot.close, hs]

/-- Everything an ungated tick can do. -/
theorem State.tick_ok {s t : State} (h : s.tick = .ok t) :
    t = s.afterStep1.step2.afterStep3.step4.close ∧
    (s.txcPending ≠ none → overrideLegal s.nextTxcAnswer.newState = true ∧ Accepted s s.nextTxcAnswer.ops) ∧
    (∀ c, s.afterStep1.step2.rxc = some c → c.countdown ≤ 1 → c.en = true →
      Accepted s.afterStep1.step2 s.afterStep1.step2.nextAnswer) := by
  unfold State.tick at h
  cases h1 : s.step1 with
  | error r => rw [h1] at h; cases h
  | ok s1 =>
    rw [h1] at h
    obtain ⟨rfl, ha⟩ := State.step1_ok h1
    cases h3 : s.afterStep1.step2.step3 with
    | error r => simp only [h3] at h; cases h
    | ok s3 =>
      simp only [h3] at h
      obtain ⟨rfl, hb⟩ := State.step3_ok h3
      exact ⟨by simpa using h.symm, ha, hb⟩

/-- Everything TX_TICK can do. -/
theorem execTxTick_next {s t : State} : execTxTick s = .next t ↔
    (s.running = true ∧ s.begin.tick = .ok t) ∨ (s.running = false ∧ t = s.finish (.slot .none)) := by
  unfold execTxTick
  cases hr : s.running <;> simp [conclude_next, eq_comm (a := s.finish _)]

end Sys2Proof.Machine
end

