-- ==== Sys2Proof/Tests/Slice0.lean ====
section
/-! SUPPORT. Tests: well-formedness refuses, written-out words decode, the golden vectors, one-step tests, and a witness for
the hypotheses of every statement that has them. Expected values are of spec/95_test_vectors.md, by its section. -/

namespace Sys2Proof.Tests

-- One after the other: each kernel evaluation would otherwise hold a thread of its own while it waits.
set_option Elab.async false

open Sys2Proof.Machine Sys2Proof.Spec

/-! ### Well-formedness -/

/-- Every field one above its width is refused, and the greatest fields are accepted (R110). -/
theorem test_wf_synchronisation_and_gtc :
    ([
      .ccsc 32768, .dcsc 32768, .gtc 128 0 0 0 0 0, .gtc 0 8192 0 0 0 0, .gtc 0 0 2 0 0 0, .gtc 0 0 0 1024 0 0,
      .gtc 0 0 0 0 8192 0, .gtc 0 0 0 0 0 4] : List Instr).all (fun i => !i.wf) = true ∧
    ([
      .ccsc 32767, .dcsc 32767, .gtc 127 8191 1 1023 8191 3] : List Instr).all Instr.wf = true := by
  decide +kernel

/-- Every field one above its width is refused, and the greatest fields are accepted (R110). -/
theorem test_wf_aloha :
    ([
      .alh 128 0 0 0 0 0 0, .alh 0 8192 0 0 0 0 0, .alh 0 0 16 0 0 0 0, .alh 0 0 0 8 0 0 0, .alh 0 0 0 0 4 0 0,
      .alh 0 0 0 0 0 32 0, .alh 0 0 0 0 0 0 16, .alhs 128 0 0 0 0 0 0, .alhs 0 8192 0 0 0 0 0,
      .alhs 0 0 16 0 0 0 0, .alhs 0 0 0 8 0 0 0, .alhs 0 0 0 0 4 0 0, .alhs 0 0 0 0 0 32 0,
      .alhs 0 0 0 0 0 0 16, .alhd 128 0 0 0 0 0 0, .alhd 0 8192 0 0 0 0 0, .alhd 0 0 16 0 0 0 0,
      .alhd 0 0 0 8 0 0 0, .alhd 0 0 0 0 4 0 0, .alhd 0 0 0 0 0 32 0, .alhd 0 0 0 0 0 0 16,
      .alhe 128 0 0 0 0 0 0, .alhe 0 8192 0 0 0 0 0, .alhe 0 0 16 0 0 0 0, .alhe 0 0 0 8 0 0 0,
      .alhe 0 0 0 0 4 0 0, .alhe 0 0 0 0 0 32 0, .alhe 0 0 0 0 0 0 16, .alhr 128 0 0 0 0 0 0,
      .alhr 0 8192 0 0 0 0 0, .alhr 0 0 16 0 0 0 0, .alhr 0 0 0 8 0 0 0, .alhr 0 0 0 0 4 0 0,
      .alhr 0 0 0 0 0 32 0, .alhr 0 0 0 0 0 0 16, .alhx 128 0 0 0 0 0 0, .alhx 0 8192 0 0 0 0 0,
      .alhx 0 0 16 0 0 0 0, .alhx 0 0 0 8 0 0 0, .alhx 0 0 0 0 4 0 0, .alhx 0 0 0 0 0 32 0,
      .alhx 0 0 0 0 0 0 16, .alhf 128 0 0 0 0 0 0, .alhf 0 8192 0 0 0 0 0, .alhf 0 0 16 0 0 0 0,
      .alhf 0 0 0 8 0 0 0, .alhf 0 0 0 0 4 0 0, .alhf 0 0 0 0 0 32 0, .alhf 0 0 0 0 0 0 16] : List Instr).all (fun i => !i.wf) = true ∧
    ([
      .alh 127 8191 15 7 3 31 15, .alhs 127 8191 15 7 3 31 15, .alhd 127 8191 15 7 3 31 15,
      .alhe 127 8191 15 7 3 31 15, .alhr 127 8191 15 7 3 31 15, .alhx 127 8191 15 7 3 31 15,
      .alhf 127 8191 15 7 3 31 15] : List Instr).all Instr.wf = true := by
  decide +kernel

/-- Every field one above its width is refused, and the greatest fields are accepted (R110). -/
theorem test_wf_ack :
    ([
      .ack 128 0 0 0 0, .ack 0 8192 0 0 0, .ack 0 0 8192 0 0, .ack 0 0 0 2 0, .ack 0 0 0 0 16,
      .acki 128 0 0 0 0, .acki 0 8192 0 0 0, .acki 0 0 8192 0 0, .acki 0 0 0 2 0, .acki 0 0 0 0 16,
      .ackq 128 0 0 0 0, .ackq 0 8192 0 0 0, .ackq 0 0 8192 0 0, .ackq 0 0 0 2 0, .ackq 0 0 0 0 16,
      .ackx 128 0 0 0 0, .ackx 0 8192 0 0 0, .ackx 0 0 8192 0 0, .ackx 0 0 0 2 0, .ackx 0 0 0 0 16,
      .ackv 128 0 0 0 0, .ackv 0 8192 0 0 0, .ackv 0 0 8192 0 0, .ackv 0 0 0 2 0, .ackv 0 0 0 0 16,
      .acke 128 0 0 0 0, .acke 0 8192 0 0 0, .acke 0 0 8192 0 0, .acke 0 0 0 2 0, .acke 0 0 0 0 16,
      .ackt 128 0 0 0 0, .ackt 0 8192 0 0 0, .ackt 0 0 8192 0 0, .ackt 0 0 0 2 0, .ackt 0 0 0 0 16,
      .ackb 128 0 0 0 0, .ackb 0 8192 0 0 0, .ackb 0 0 8192 0 0, .ackb 0 0 0 2 0, .ackb 0 0 0 0 16] : List Instr).all (fun i => !i.wf) = true ∧
    ([
      .ack 127 8191 8191 1 15, .acki 127 8191 8191 1 15, .ackq 127 8191 8191 1 15, .ackx 127 8191 8191 1 15,
      .ackv 127 8191 8191 1 15, .acke 127 8191 8191 1 15, .ackt 127 8191 8191 1 15, .ackb 127 8191 8191 1 15] : List Instr).all Instr.wf = true := by
  decide +kernel

/-- Every field one above its width is refused, and the greatest fields are accepted (R110). -/
theorem test_wf_ahoy :
    ([
      .ahy 128 0 0 0 0 0 0 0, .ahy 0 8192 0 0 0 0 0 0, .ahy 0 0 8192 0 0 0 0 0, .ahy 0 0 0 2 0 0 0 0,
      .ahy 0 0 0 0 2 0 0 0, .ahy 0 0 0 0 0 2 0 0, .ahy 0 0 0 0 0 0 2 0, .ahy 0 0 0 0 0 0 0 2, .ahyx 128 0 0 0,
      .ahyx 0 8192 0 0, .ahyx 0 0 8192 0, .ahyx 0 0 0 32, .ahyq 128 0 0 0, .ahyq 0 8192 0 0, .ahyq 0 0 8192 0,
      .ahyq 0 0 0 32, .ahyc 128 0 0 0 0, .ahyc 0 8192 0 0 0, .ahyc 0 0 8192 0 0, .ahyc 0 0 0 4 0,
      .ahyc 0 0 0 0 8] : List Instr).all (fun i => !i.wf) = true ∧
    ([
      .ahy 127 8191 8191 1 1 1 1 1, .ahyx 127 8191 8191 31, .ahyq 127 8191 8191 31, .ahyc 127 8191 8191 3 7] : List Instr).all Instr.wf = true := by
  decide +kernel

/-- Every field one above its width is refused, and the greatest fields are accepted (R110). -/
theorem test_wf_request :
    ([
      .rqs 128 0 0 0 0 0 0 0, .rqs 0 8192 0 0 0 0 0 0, .rqs 0 0 8192 0 0 0 0 0, .rqs 0 0 0 2 0 0 0 0,
      .rqs 0 0 0 0 2 0 0 0, .rqs 0 0 0 0 0 2 0 0, .rqs 0 0 0 0 0 0 2 0, .rqs 0 0 0 0 0 0 0 2, .rqx 128 0 0 0,
      .rqx 0 8192 0 0, .rqx 0 0 8192 0, .rqx 0 0 0 32, .rqt 128 0 0 0 0 0 0, .rqt 0 8192 0 0 0 0 0,
      .rqt 0 0 8192 0 0 0 0, .rqt 0 0 0 4 0 0 0, .rqt 0 0 0 0 2 0 0, .rqt 0 0 0 0 0 2 0, .rqt 0 0 0 0 0 0 2,
      .rqe 128 0 0 0 0 0 0 0, .rqe 0 8192 0 0 0 0 0 0, .rqe 0 0 8192 0 0 0 0 0, .rqe 0 0 0 2 0 0 0 0,
      .rqe 0 0 0 0 2 0 0 0, .rqe 0 0 0 0 0 2 0 0, .rqe 0 0 0 0 0 0 2 0, .rqe 0 0 0 0 0 0 0 2, .rqr 128 0 0 0,
      .rqr 0 8192 0 0, .rqr 0 0 32768 0, .rqr 0 0 0 8, .rqq 128 0 0 0, .rqq 0 8192 0 0, .rqq 0 0 8192 0,
      .rqq 0 0 0 32, .rqc 128 0 0 0 0 0 0, .rqc 0 8192 0 0 0 0 0, .rqc 0 0 8192 0 0 0 0, .rqc 0 0 0 4 0 0 0,
      .rqc 0 0 0 0 2 0 0, .rqc 0 0 0 0 0 2 0, .rqc 0 0 0 0 0 0 2] : List Instr).all (fun i => !i.wf) = true ∧
    ([
      .rqs 127 8191 8191 1 1 1 1 1, .rqx 127 8191 8191 31, .rqt 127 8191 8191 3 1 1 1,
      .rqe 127 8191 8191 1 1 1 1 1, .rqr 127 8191 32767 7, .rqq 127 8191 8191 31, .rqc 127 8191 8191 3 1 1 1] : List Instr).all Instr.wf = true := by
  decide +kernel

/-- Every field one above its width is refused, and the greatest fields are accepted (R110). -/
theorem test_wf_control :
    ([
      .maint 128 0 0 0 0 0, .maint 0 8192 0 0 0 0, .maint 0 0 1024 0 0 0, .maint 0 0 0 8 0 0,
      .maint 0 0 0 0 4 0, .maint 0 0 0 0 0 8, .clear 1024 0 0 0, .clear 0 1024 0 0, .clear 0 0 16 0,
      .clear 0 0 0 4, .move 128 0 0 0 0 0, .move 0 8192 0 0 0 0, .move 0 0 1024 0 0 0, .move 0 0 0 4 0 0,
      .move 0 0 0 0 4 0, .move 0 0 0 0 0 16, .samis 1048576 0, .samis 0 1048576] : List Instr).all (fun i => !i.wf) = true ∧
    ([
      .maint 127 8191 1023 7 3 7, .clear 1023 1023 15 3, .move 127 8191 1023 3 3 15, .samis 1048575 1048575] : List Instr).all Instr.wf = true := by
  decide +kernel

/-- Every field one above its width is refused, and the greatest fields are accepted (R110). -/
theorem test_wf_broadcast :
    ([
      .bcast 32 0 0, .bcast 0 32768 0, .bcast 0 0 262144, .bcastAnn 32768 0 0 0, .bcastAnn 0 1024 0 0,
      .bcastAnn 0 0 4 0, .bcastAnn 0 0 0 64, .bcastWdr 32768 0 0 0, .bcastWdr 0 1024 0 0, .bcastWdr 0 0 4 0,
      .bcastWdr 0 0 0 64, .bcastMaint 32768 0 0 0 0 0 0, .bcastMaint 0 2 0 0 0 0 0, .bcastMaint 0 0 32 0 0 0 0,
      .bcastMaint 0 0 0 2 0 0 0, .bcastMaint 0 0 0 0 2 0 0, .bcastMaint 0 0 0 0 0 4 0,
      .bcastMaint 0 0 0 0 0 0 256, .bcastReg 32768 0 0, .bcastReg 0 16 0, .bcastReg 0 0 16384,
      .bcastAdj 32768 0 0 0 0, .bcastAdj 0 1024 0 0 0, .bcastAdj 0 0 4 0 0, .bcastAdj 0 0 0 4 0,
      .bcastAdj 0 0 0 0 16, .bcastVote 32768 0 0 0 0, .bcastVote 0 1024 0 0 0, .bcastVote 0 0 4 0 0,
      .bcastVote 0 0 0 4 0, .bcastVote 0 0 0 0 16] : List Instr).all (fun i => !i.wf) = true ∧
    ([
      .bcast 31 32767 262143, .bcastAnn 32767 1023 3 63, .bcastWdr 32767 1023 3 63,
      .bcastMaint 32767 1 31 1 1 3 255, .bcastReg 32767 15 16383, .bcastAdj 32767 1023 3 3 15,
      .bcastVote 32767 1023 3 3 15] : List Instr).all Instr.wf = true := by
  decide +kernel

/-- Every field one above its width is refused, and the greatest fields are accepted (R110). -/
theorem test_wf_transaction :
    ([
      .rxTick 281474976710656, .fcs 281474976710656, .dec 281474976710656, .enqCC (.plain (2 ^ 48)),
      .enqTC (.plain (2 ^ 48)), .enc (.alhFam 8 0 0 0 0 0 0 0), .enc (.ackFam 8 0 0 0 0 0), .enc (.ccsc 32768)] : List Instr).all (fun i => !i.wf) = true ∧
    ([
      .rxTick 281474976710655, .fcs 281474976710655, .dec 281474976710655, .enqCC (.plain (2 ^ 48 - 1)),
      .enc (.alhFam 7 127 8191 15 7 3 31 15), .setIdent [255], .nop] : List Instr).all Instr.wf = true := by
  decide +kernel

/-- An item beyond `RLEN_MAX` or with a tag wider than `TAGW` is not representable; the greatest ones are (U17, R26). -/
theorem test_representable :
    ([{ ItemOperand.plain 0 with rlen := 256 }, { ItemOperand.plain 0 with txcTag := 65536 },
      { ItemOperand.plain 0 with rxcTag := 65536 }]).all (fun it => !it.representable referenceConfig) = true ∧
    ({ ItemOperand.plain 0 with rlen := 255, txcTag := 65535, rxcTag := 65535 }).representable referenceConfig = true := by
  decide +kernel

/-! ### Decoding and encoding: one written word for every constructor (section 3) -/

/-- The word reads as the instruction on the transmit side, and is the word the encoder writes for it. -/
def sent (w : Codeword) (i : Instr) : Bool :=
  decide (decodeRequest (.slot (1#2 ++ w)) = .ok i) && decide (encodeRequest i = .slot (1#2 ++ w))

/-- The same for a word heard from a radio unit. -/
def heard (w : Codeword) (i : Instr) : Bool :=
  decide (decodeRequest (.heard w) = .ok i) && decide (encodeRequest i = .heard w)

/-- The same for a transaction. -/
def issued (code : BitVec 4) (ws : List Nat) (i : Instr) : Bool :=
  decide (decodeRequest (.transaction code ws) = .ok i) && decide (encodeRequest i = .transaction code ws)

theorem test_decode_sync : sent 0x4A89740BAAAA (.ccsc 0x4A89) = true ∧ sent 0x4A893711AAAA (.dcsc 0x4A89) = true ∧
    sent 0x0005C992AAAA (.ccsc 5) = true ∧ sent 0x00058A88AAAA (.dcsc 5) = true := by decide +kernel

theorem test_decode_gtc : sent 0x810320128320 (.gtc 1 100 0 37 200 0) = true ∧
    sent 0xFFFFFBFFFFFF (.gtc 127 8191 1 1023 8191 3) = true := by decide +kernel

theorem test_decode_aloha : sent 0x80000401B805 (.alh 0 0 6 7 0 0 5) = true ∧
    sent 0x80000405B805 (.alhs 0 0 6 7 0 0 5) = true ∧ sent 0x80000409B805 (.alhd 0 0 6 7 0 0 5) = true ∧
    sent 0x8000040DB805 (.alhe 0 0 6 7 0 0 5) = true ∧ sent 0x80000411B805 (.alhr 0 0 6 7 0 0 5) = true ∧
    sent 0x80000415B805 (.alhx 0 0 6 7 0 0 5) = true ∧ sent 0x80000419B805 (.alhf 0 0 6 7 0 0 5) = true ∧
    sent 0xFFFFFC03FFFF (.alh 127 8191 15 7 3 31 15) = true := by decide +kernel

theorem test_decode_ack : sent 0x8A544C23FF20 (.ack 10 2697 8185 0 0) = true ∧
    sent 0x8A544C27FF20 (.acki 10 2697 8185 0 0) = true ∧ sent 0x8A544C2BFF20 (.ackq 10 2697 8185 0 0) = true ∧
    sent 0x8A544C2FFF20 (.ackx 10 2697 8185 0 0) = true ∧ sent 0x8A544C33FF20 (.ackv 10 2697 8185 0 0) = true ∧
    sent 0x8A544C37FF20 (.acke 10 2697 8185 0 0) = true ∧ sent 0x8A544C3BFF20 (.ackt 10 2697 8185 0 0) = true ∧
    sent 0x8A544C3FFF20 (.ackb 10 2697 8185 0 0) = true ∧ sent 0xFFFFFC23FFFF (.ack 127 8191 8191 1 15) = true := by
  decide +kernel

theorem test_decode_ahoy : sent 0x8A544C43FFCC (.ahy 10 2697 8190 0 1 1 0 0) = true ∧
    sent 0x8A544C4BFFC0 (.ahyx 10 2697 8190 0) = true ∧ sent 0x8A544C5BFFD1 (.ahyq 10 2697 8190 17) = true ∧
    sent 0x8A544C5FFF90 (.ahyc 10 2697 8188 2 0) = true := by decide +kernel

theorem test_decode_request : heard 0x8A544C400C88 (.rqs 10 2697 100 0 1 0 0 0) = true ∧
    heard 0x8A544C480C80 (.rqx 10 2697 100 0) = true ∧ heard 0x8A544C4C0C88 (.rqt 10 2697 100 1 0 0 0) = true ∧
    heard 0x8A544C500C84 (.rqe 10 2697 100 0 0 1 0 0) = true ∧ heard 0x8A544C5491A0 (.rqr 10 2697 0x1234 0) = true ∧
    heard 0x8A544C5BFFDF (.rqq 10 2697 8190 31) = true ∧ heard 0x8A544C5FFF90 (.rqc 10 2697 8188 2 0 0 0) = true := by
  decide +kernel

theorem test_decode_control : sent 0x8A544C642560 (.maint 10 2697 37 3 0 0) = true ∧
    sent 0x84A034680AAA (.clear 37 6 0 0) = true ∧ sent 0x8A544C6C0600 (.move 10 2697 6 0 0 0) = true ∧
    heard 0x891A2C86789A (.samis 0x12345 0x6789A) = true := by decide +kernel

/-- Bit by bit for `SYSDEF` 31: bit 47, `11111`, `SYS` 0, bit 26, TYPE 3, FUNC 4, `P18` = 1. -/
theorem test_decode_broadcast : sent 0xFC0004700001 (.bcast 31 0 1) = true ∧
    sent 0x82544C700600 (.bcastAnn 0x4A89 6 0 0) = true ∧ sent 0x86544C700600 (.bcastWdr 0x4A89 6 0 0) = true ∧
    sent 0x8A544C720409 (.bcastMaint 0x4A89 1 0 0 1 0 9) = true ∧
    sent 0x8E544C701000 (.bcastReg 0x4A89 0 0x1000) = true ∧ sent 0x92544C700703 (.bcastAdj 0x4A89 7 0 0 3) = true ∧
    sent 0x96544C700703 (.bcastVote 0x4A89 7 0 0 3) = true := by decide +kernel

theorem test_decode_traffic : decodeRequest (.slot (0x2000000000000#50)) = .ok .traffic := by decide +kernel

/-- The transaction codes of R72. -/
theorem test_decode_transaction : issued 0 [] .nop = true ∧ issued 1 [] .start = true ∧ issued 2 [] .stop = true ∧
    issued 3 [0x8A544C5FFF90, 1, 0x11, 2, 1, 0x22]
      (.enqCC { cw := 0x8A544C5FFF90, txcEn := true, txcTag := 0x11, rlen := 2, rxcEn := true, rxcTag := 0x22 }) = true ∧
    issued 4 [0x8A544C400C80, 0, 0, 0, 0, 0] (.enqTC (.plain 0x8A544C400C80)) = true ∧
    issued 5 [71, 49] (.setIdent [71, 49]) = true ∧ issued 6 [] .txTick = true ∧ issued 7 [5] (.rxTick 5) = true ∧
    issued 8 [] .identDone = true ∧ issued 9 [5] (.fcs 5) = true ∧ issued 10 [0, 0x4A89] (.enc (.ccsc 0x4A89)) = true ∧
    issued 11 [5] (.dec 5) = true ∧ issued 12 [] .reset = true := by decide +kernel

/-- Words that are no instruction are refused by name (R69, R70, R75). -/
theorem test_decode_refuses :
    decodeRequest (.heard 0x8A544C440000) = .error (.unassigned 0x8A544C440000) ∧
    decodeRequest (.heard 0x00000000AAAA) = .error (.notACodeword 0x00000000AAAA) ∧
    decodeRequest (.heard 0x80000407FFFF) = .ok (.alhs 0 0 15 7 3 31 15) ∧
    decodeRequest (.heard 0x80000441FFFF) = .ok (.rqs 0 0 4095 1 1 1 1 1) ∧
    decodeRequest (.slot 0) = .error .noCodeword ∧ decodeRequest (.slot 0x3000000000000) = .error .reservedTxOutKind ∧
    decodeRequest (.transaction 13 []) = .error (.reservedTransaction 13) ∧
    decodeRequest (.transaction 1 [0]) = .error (.operandShape 1) := by decide +kernel

/-- The opcode table's words, by the number of their bits. -/
theorem test_decode_table : decodeTableWord 48 0x800004400000 = some (.rqs 0 0 0 0 0 0 0 0) ∧
    decodeTableWord 8 3 = some (.enqCC (.plain 0)) ∧ decodeTableWord 8 10 = some (.enc (.ccsc 0)) ∧
    decodeTableWord 8 15 = none ∧ decodeTableWord 50 0x2000000000000 = some .traffic := by decide +kernel

/-! ### The FCS, the synchronisation codewords and the codec -/

/-- The five golden vectors of the source (section 1.1). -/
theorem test_fcs_golden : fcs 0x4A89740BAAAA = 0xC4D7 ∧ fcs 0x80000401B80A = 0x949C ∧ fcs 0x8A544C720409 = 0xF6EE ∧
    fcs 0x80000401B800 = 0xF531 ∧ fcs 0x8E544C701000 = 0xE4C9 := by decide +kernel

/-- Further values (section 1.3). -/
theorem test_fcs_values : fcs 0 = 0x0003 ∧ fcs 1 = 0xD028 ∧ fcs 0xFFFFFFFFFFFF = 0xFFFC ∧ fcs 0xAAAAAAAAAAAA = 0x1AB0 ∧
    fcs 0x123456789ABC = 0x13E3 := by decide +kernel

/-- Worked values, one with `x` = 1 in each family (section 2.2). -/
theorem test_sync_values : syncCW 0x4A89 .ccsc = 0x4A89740BAAAA ∧ syncCW 0x4A89 .dcsc = 0x4A893711AAAA ∧
    syncCW 5 .ccsc = 0x0005C992AAAA ∧ syncCW 0x4000 .dcsc = 0x40008E11AAAA ∧ fcs 0xAAAAC4D4000A = 0x430C := by
  decide +kernel

/-- Overflowing fields are cut to their width (section 3, rows "overflow"). -/
theorem test_encode_masks : encode (.gtc 0x80 0x2000 2 0x400 0x2000 4) = 0x800000000000 ∧
    encode (.alhFam 0 0 0 6 7 0 0 16) = 0x80000401B800 ∧ encode (.ccsc 0x8005) = 0x0005C992AAAA := by decide +kernel

/-- Decode vectors (section 4). -/
theorem test_decode_vectors : decode 0xFFFFFC3FFFFF = some (.ackFam 7 127 8191 8191 1 15) ∧
    decode 0x8A544C5FFF90 = some (.rqc 10 2697 8188 2 0 0 0) ∧ decode 0xFFFFFC67FFFF = some (.maint 127 8191 1023 7 3 7) ∧
    decode 0x4A89740BAAAA = none ∧ decode 0x810320128320 = none ∧ decode 0x80000447FFFF = none ∧
    decode 0x891A2C96789A = none ∧ decode 0x800005000000 = none := by decide +kernel

/-- Bits of the `TxOut` and of the packed item (R75, R73). -/
theorem test_packed_forms : (TxOut.cw 0x800004400000).bits = 0x1800004400000 ∧ TxOut.mark.bits = 0x2000000000000 ∧
    ({ cw := 0x8A544C5FFF90, txcEn := true, txcTag := 0x11, rlen := 2, rxcEn := true, rxcTag := 0x22 } :
      ItemOperand).pack referenceConfig = ((((0x8A544C5FFF90 * 2 + 1) * 2 ^ 16 + 0x11) * 2 ^ 8 + 2) * 2 + 1) * 2 ^ 16 + 0x22 := by
  decide +kernel

/-! ### One step on a small state -/

/-- A running block of the reference instance in a sequencer state, nothing queued or pending. -/
def at_ (st : SeqState) : State := { State.reset with running := true, state := st }

/-- A field of the state after an instruction. -/
def after {α : Type} (i : Instr) (s : State) (f : State → α) : Option α := (nextState? (exec i s)).map f

/-- An item with both completions and a reply length. -/
def itemOp (cw rlen : Nat) : ItemOperand :=
  { cw := cw, txcEn := true, txcTag := 0x11, rlen := rlen, rxcEn := true, rxcTag := 0x22 }

/-- A collector with a continuation of tag 0x22. -/
def coll (remaining countdown : Nat) (en : Bool) : Collector :=
  { remaining := remaining, acc := [], countdown := countdown, en := en, tag := 0x22 }

theorem test_codeword_rows : after (.ackq 10 2697 8185 0 0) State.reset (·.result) = some (.code 0x8A544C2BFF20) ∧
    after (.ccsc 0x4A89) State.reset (·.result) = some (.code 0x4A89740BAAAA) ∧
    after .traffic State.reset (·.result) = some (.slot .mark) := by decide +kernel

theorem test_fetch_word : (nextState? (step (State.reset.withFetchWord 8 1))).map (·.running) = some true ∧
    (nextState? (step (State.reset.withFetchWord 48 0x8A544C642560))).map (·.result) = some (.code 0x8A544C642560) ∧
    (nextState? (step (State.reset.withFetchWord 8 14))) = none := by decide +kernel

theorem test_start_stop : after .start State.reset (·.running) = some true ∧
    after .stop (at_ .trafficCodeword) (fun t => (t.running, t.state)) = some (false, .trafficCodeword) := by decide +kernel

/-- `mask_48` on the enqueue, and the refusal beyond `RLEN_MAX` (R42, U17). -/
theorem test_enqueue : after (.enqCC (itemOp (2 ^ 48 + 5) 2)) State.reset (fun t => t.ccq.map (·.cw)) = some [5] ∧
    after (.enqTC (itemOp 6 0)) State.reset (fun t => (t.ccq.length, t.tcq.map (·.cw))) = some (0, [6]) ∧
    after (.enqCC (itemOp 5 256)) State.reset (·.ccq) = none := by decide +kernel

theorem test_ident : after (.setIdent [1]) { State.reset with identPending := some [2] } (·.identPending) = some (some [1]) ∧
    after .identDone (at_ .identInProgress) (·.state) = some .beginFrame := by decide +kernel

theorem test_pure_transactions : after (.fcs 0x1FFFFFFFFFFFF) State.reset (·.result) = some (.check 0xFFFC) ∧
    after (.enc (.bcast 2 0x4A89 0x20409)) State.reset (·.result) = some (.code 0x8A544C720409) ∧
    after (.dec 0x8A544C5491A0) State.reset (·.result) = some (.variant (some (.rqr 10 2697 4660 0))) ∧
    after .nop (at_ .beginFrame) (·.result) = some .nothing := by decide +kernel

theorem test_reset : after .reset { at_ .trafficCodeword with rsv := 3, lastTx := .mark, rxc := some (coll 1 4 true) }
    (fun t => (t.state, t.rsv, t.running, t.rxc, t.events)) = some (.beginFrame, 0, false, none, []) := by decide +kernel

/-- Section 6, P1 ticks 1 and 4. -/
theorem test_tick_idle : after .txTick (at_ .beginFrame) (fun t => (t.result, t.state))
      = some (.slot (.cw 0x4A89740BAAAA), .controlCodeword) ∧
    after .txTick { at_ .controlCodeword with af := 5 } (fun t => (t.result, t.af, t.state))
      = some (.slot (.cw 0x80000401B805), 4, .beginFrame) := by decide +kernel

/-- Section 6, P2 ticks 2, 5 and 8: the item, the filler, the queue again. -/
theorem test_tick_reservation :
    after .txTick { at_ .controlCodeword with ccq := [(itemOp 0x8A544C5FFF90 2).toItem] }
      (fun t => (t.result, t.rsv, t.rxcNext)) = some (.slot (.cw 0x8A544C5FFF90), 2, some (coll 2 4 true)) ∧
    after .txTick { at_ .controlCodeword with rsv := 2, ccq := [(itemOp 5 0).toItem] }
      (fun t => (t.result, t.rsv, t.ccq.length)) = some (.slot (.cw 0x800004400000), 1, 1) ∧
    after .txTick { at_ .controlCodeword with rsv := 1, ccq := [(itemOp 5 0).toItem] }
      (fun t => (t.result, t.rsv, t.ccq.length)) = some (.slot (.cw 5), 0, 0) := by decide +kernel

/-- Section 6, P4 tick 8: the override acts in the same tick. -/
theorem test_tick_override :
    after .txTick { at_ .beginFrame with txcPending := some 0x66, txcAnswers := [⟨[], some 2⟩] }
      (fun t => (t.result, t.state, t.events)) = some (.slot .none, .trafficQuiescent, [.txc 0x66]) := by decide +kernel

/-- Section 6, P3 ticks 3 and 6, and P7 tick 5: arming, the timeout, the overwritten collector. -/
theorem test_tick_collector :
    after .txTick { at_ .beginFrame with rxcNext := some (coll 1 4 true), rxc := some (coll 1 2 true) }
      (fun t => (t.rxc, t.events)) = some (some (coll 1 3 true), []) ∧
    after .txTick { at_ .beginFrame with rxc := some (coll 1 1 true) }
      (fun t => (t.rxc, t.events)) = some (none, [.rxc 0x22 .timeout []]) := by decide +kernel

/-- Section 6, P4 ticks 10 and 11. -/
theorem test_tick_traffic :
    after .txTick { at_ .trafficQuiescent with tcq := [(itemOp 5 0).toItem] }
      (fun t => (t.result, t.state, t.tcq.length)) = some (.slot .mark, .trafficCodeword, 1) ∧
    after .txTick { at_ .trafficCodeword with tcq := [(itemOp 5 0).toItem] }
      (fun t => (t.result, t.state, t.tcq.length)) = some (.slot (.cw 5), .trafficQuiescent, 0) := by decide +kernel

/-- Section 6, P6 tick 3: the one fault, `last_tx` unchanged. -/
theorem test_tick_fault : after .txTick { at_ .trafficCodeword with lastTx := .mark }
    (fun t => (t.result, t.state, t.events, t.lastTx)) = some (.slot .none, .trafficQuiescent, [.fault .tx 1], .mark) := by
  decide +kernel

/-- Section 6, P5 tick 14. -/
theorem test_tick_ident : after .txTick { at_ .beginFrame with identPending := some [71, 49] }
    (fun t => (t.result, t.state, t.events)) = some (.slot .none, .identInProgress, [.identStart [71, 49]]) := by
  decide +kernel

/-- Section 6, P2 transactions 4 and 6. -/
theorem test_rx_collects :
    after (.rxTick 0x891A2C86789A) { at_ .beginFrame with rxc := some (coll 2 3 true) } (fun t => t.rxc)
      = some (some { coll 1 4 true with acc := [0x891A2C86789A] }) ∧
    after (.rxTick 1) { at_ .beginFrame with rxc := some { coll 1 3 true with acc := [0x891A2C86789A] } }
      (fun t => (t.rxc, t.events)) = some (none, [.rxc 0x22 .success [0x891A2C86789A, 1]]) := by decide +kernel

/-- Section 6, P4 transactions 2 and 4: forwarded with the answer applied, dropped. -/
theorem test_rx_forwards :
    after (.rxTick 0x8A544C5491A0) { at_ .beginFrame with answers := [[.enqCC (.plain 0x8A544C23FF20)]] }
      (fun t => (t.events, t.ccq.map (·.cw))) = some ([.rxfwd 1 (.rqr 10 2697 4660 0)], [0x8A544C23FF20]) ∧
    after (.rxTick 0x80000401B805) (at_ .beginFrame) (·.events) = some [] := by decide +kernel

/-- The status of R268, and the well-known idents inside 13 bits (R78). -/
theorem test_status : (at_ .trafficCodeword).status.state = 3 ∧
    [identDummy, identReg, identInc, identDivert, identSdm, identIpfix, identTsc, identAll, identPstn, identPabx].all (fits 13)
      = true := by decide +kernel

/-! ### Witnesses: every clause of a statement with hypotheses has states and operands that meet them -/

theorem test_witness_StepRunsTheDecodedTransaction :
    (∃ (s : State) (r : Request) (i : Instr), s.inbox = [r] ∧ decodeRequest r = .ok i) ∧
    (∃ (s : State) (r : Request) (why : Reject), s.inbox = [r] ∧ decodeRequest r = .error why) ∧
    (∃ s : State, s.inbox = []) :=
  ⟨⟨{ State.reset with inbox := [.transaction 6 []] }, .transaction 6 [], .txTick, rfl, rfl⟩,
   ⟨{ State.reset with inbox := [.slot 0] }, .slot 0, .noCodeword, rfl, rfl⟩, ⟨State.reset, rfl⟩⟩

theorem test_witness_ReservedRequestsAreRefused :
    (∃ s : State, s.inbox = [.transaction 13 []] ∧ 13 ≤ (13 : BitVec 4).toNat) ∧
    (∃ s : State, s.inbox = [.transaction 15 [7]] ∧ 13 ≤ (15 : BitVec 4).toNat) ∧
    (∃ s : State, s.inbox = [.slot (3#2 ++ 0xFFFFFFFFFFFF#48)]) :=
  ⟨⟨{ State.reset with inbox := [.transaction 13 []] }, rfl, by decide⟩,
   ⟨{ State.reset with inbox := [.transaction 15 [7]] }, rfl, by decide⟩,
   ⟨{ State.reset with inbox := [.slot (3#2 ++ 0xFFFFFFFFFFFF#48)] }, rfl⟩⟩

theorem test_witness_DecodeOfEncodeIsTheInstruction :
    (Instr.bcast 5 0x7FFF 0x3FFFF).wf = true ∧ (Instr.rqr 127 8191 0x7FFF 7).wf = true ∧
    (Instr.enqCC (itemOp (2 ^ 48 - 1) 255)).wf = true := by decide +kernel

theorem test_witness_CodewordRowsMatchTheOpcodeTable :
    tableRow (.clear 2000 2000 2000 2000) = some (0x800004680AAA, 0x800007FC0FFF) := rfl

theorem test_witness_EncodePacksTheTransmitSide : receivable (.bcast 32 0x8000 0x40000) = false ∧
    packed (.bcast 32 0x8000 0x40000) = some (Spec.bcast 32 0x8000 0x40000) ∧ packed (.ccsc 5) = none := ⟨rfl, rfl, rfl⟩

theorem test_witness_EncodePacksTheRadioSide : receivable (.samis 0xFFFFF 0x100000) = true ∧
    packed (.samis 0xFFFFF 0x100000) = some (Spec.samis 0xFFFFF 0x100000) := ⟨rfl, rfl⟩

theorem test_witness_PackedItemRoundTrips : referenceConfig.rlenMax = 255 ∧ referenceConfig.tagw = 16 ∧
    (itemOp (2 ^ 48 - 1) 255).wf = true ∧
    (itemOp (2 ^ 48 - 1) 255).representable referenceConfig = true := by decide +kernel

theorem test_witness_CodecRoundTrips : decode 0xFFFFFC5FFFFF = some (.rqc 127 8191 8191 3 1 1 1) ∧
    receivable (.samis 0x1FFFFF 0) = true ∧ (Variant.samis 0xFFFFF 0).wf = true := by decide +kernel

theorem test_witness_EncodeCollidesOnlyInThePairs :
    (Variant.ahyc 10 2697 8188 2 5).wf = true ∧ (Variant.rqc 10 2697 8188 2 1 0 1).wf = true ∧
    encode (.ahyc 10 2697 8188 2 5) = encode (.rqc 10 2697 8188 2 1 0 1) := by decide +kernel

theorem test_witness_StopMakesTheTicksIgnored :
    State.reset.running = false ∧ ∃ t, exec (.rxTick 5) (at_ .beginFrame) = .next t := ⟨rfl, _, rfl⟩

theorem test_witness_EnqueueAppendsAtTheTail :
    (itemOp 5 255).representable { referenceConfig with qdepth := some 1 } = true ∧
    queueFull { referenceConfig with qdepth := some 1 } [] = false ∧
    queueFull referenceConfig [(itemOp 5 1).toItem] = false := by decide +kernel

theorem test_witness_EnqueueRefusals :
    (itemOp 5 256).representable referenceConfig = false ∧
    (itemOp 5 1).representable { referenceConfig with qdepth := some 1 } = true ∧
    queueFull { referenceConfig with qdepth := some 1 } [(itemOp 5 1).toItem] = true := by decide +kernel

theorem test_witness_EncTransaction :
    packed (.samis 1 2) = some (Spec.samis 1 2) ∧ packed (.dcsc 5) = none := ⟨rfl, rfl⟩

theorem test_witness_ApplyPerformsTheOperationsInOrder :
    State.reset.cfg.qdepth = none ∧ opsLegal State.reset.cfg [.enqTC (itemOp 5 255), .setIdent [1]] = true ∧
    ∃ op ∈ [Instr.setIdent [1], .nop], opPermitted op = false :=
  ⟨rfl, by decide +kernel, .nop, by simp, rfl⟩

theorem test_witness_IllegalAnswersAreRefused :
    (∃ (s : State) (t : Tag), s.running = true ∧ s.txcPending = some t ∧
      ∃ op ∈ s.nextTxcAnswer.ops, opPermitted op = false) ∧
    (∃ (s : State) (t : Tag), s.running = true ∧ s.txcPending = some t ∧
      overrideLegal s.nextTxcAnswer.newState = false) ∧
    (∃ (s : State) (c : Collector), s.running = true ∧ s.txcPending = none ∧ countedCollector s = some c ∧
      c.countdown = 1 ∧ c.en = true ∧ ∃ op ∈ s.nextAnswer, opPermitted op = false) ∧
    (∃ (s : State) (c : Collector), s.running = true ∧ s.rxc = some c ∧ c.remaining = 1 ∧ c.en = true ∧
      ∃ op ∈ s.nextAnswer, opPermitted op = false) ∧
    (∃ (s : State) (v : Nat), s.running = true ∧ s.rxc = none ∧
      (∃ d, receivable d = true ∧ encode d = BitVec.ofNat 48 v) ∧ ∃ op ∈ s.nextAnswer, opPermitted op = false) :=
  ⟨⟨{ at_ .beginFrame with txcPending := some 1, txcAnswers := [⟨[.txTick], none⟩] }, 1, rfl, rfl, .txTick,
      by simp [State.nextTxcAnswer], rfl⟩,
   ⟨{ at_ .beginFrame with txcPending := some 1, txcAnswers := [⟨[], some 5⟩] }, 1, rfl, rfl, rfl⟩,
   ⟨{ at_ .beginFrame with rxc := some (coll 1 1 true), answers := [[.reset]] }, coll 1 1 true, rfl, rfl, rfl, rfl, rfl,
      .reset, by simp [State.nextAnswer], rfl⟩,
   ⟨{ at_ .beginFrame with rxc := some (coll 1 1 true), answers := [[.reset]] }, coll 1 1 true, rfl, rfl, rfl, rfl,
      .reset, by simp [State.nextAnswer], rfl⟩,
   ⟨{ at_ .beginFrame with answers := [[.reset]] }, 0x800004800000, rfl, rfl, ⟨.samis 0 0, rfl, by decide +kernel⟩,
      .reset, by simp [State.nextAnswer], rfl⟩⟩

/-- A state whose pending completion is answered with one enqueue and the given override. -/
def answering (o : Option (BitVec 3)) : State :=
  { at_ .beginFrame with txcPending := some 1, txcAnswers := [⟨[.enqCC (itemOp 5 1)], o⟩] }

/-- The state after step 1 and its answer's operations, before the override. -/
def answered : State :=
  { at_ .beginFrame with ccq := [(itemOp 5 1).toItem], events := [.txc 1] }

/-- For every override: none, a state's code, and the codes 5 to 7. -/
theorem test_witness_StepOneInvokesTheCompletion : ∀ o : Option (BitVec 3),
    (answering o).running = true ∧ (answering o).txcPending = some 1 ∧
    TxcAnswer.mk [.enqCC (itemOp 5 1)] o = (answering o).txcAnswers.headD { ops := [], newState := none } ∧
    applyOps { answering o with txcPending := none, txcAnswers := [], result := .nothing, events := [.txc 1] }
      [.enqCC (itemOp 5 1)] = .ok answered :=
  fun _ => ⟨rfl, rfl, rfl, by rfl⟩

theorem test_witness_StepTwoArmsTheReservation : ∃ (s : State) (c : Collector),
    s.running = true ∧ s.txcPending = none ∧ s.rxcNext = some c ∧ s.rxc ≠ none :=
  ⟨{ at_ .beginFrame with rxcNext := some (coll 1 4 true), rxc := some (coll 2 2 true) }, coll 1 4 true, rfl, rfl, rfl,
    by simp⟩

theorem test_witness_StepThreeDrivesTheTimeout : ∀ c : Collector, ∃ s s1 : State,
    s.running = true ∧ s.txcPending = none ∧ s.rxcNext = none ∧ s.rxc = some c ∧
    applyOps { s with rxc := none, answers := s.answers.tail, result := .nothing, events := [.rxc c.tag .timeout []] }
      (s.answers.headD []) = .ok s1 :=
  fun c => ⟨{ at_ .beginFrame with rxc := some c }, _, rfl, rfl, rfl, rfl, rfl⟩

/-- A running block with nothing pending is quiet, in every state of the sequencer. -/
theorem quiet_at (st : SeqState) : (at_ st).Quiet := ⟨rfl, rfl, rfl, rfl⟩

theorem test_witness_StateZeroBeginsTheFrame :
    (∃ s : State, s.Quiet ∧ s.state = .beginFrame ∧ s.identPending = some [1] ∧ s.af = 0) ∧
    (∃ s : State, s.Quiet ∧ s.state = .beginFrame ∧ s.identPending = none ∧ s.af = 0) ∧
    (∃ s : State, s.Quiet ∧ s.state = .beginFrame ∧ s.identPending = some [1] ∧ s.af = 1) :=
  ⟨⟨{ at_ .beginFrame with identPending := some [1] }, ⟨rfl, rfl, rfl, rfl⟩, rfl, rfl, rfl⟩,
   ⟨at_ .beginFrame, quiet_at _, rfl, rfl, rfl⟩,
   ⟨{ at_ .beginFrame with identPending := some [1], af := 1 }, ⟨rfl, rfl, rfl, rfl⟩, rfl, rfl, rfl⟩⟩

theorem test_witness_StateOneFollowsThePrecedence :
    (∃ s : State, s.Quiet ∧ s.state = .controlCodeword ∧ s.rsv = 2) ∧
    (∃ s : State, s.Quiet ∧ s.state = .controlCodeword ∧ s.rsv = 1 ∧ s.ccq = [(itemOp 5 1).toItem]) ∧
    (∃ s : State, s.Quiet ∧ s.state = .controlCodeword ∧ s.rsv = 1 ∧ s.ccq = []) :=
  ⟨⟨{ at_ .controlCodeword with rsv := 2 }, ⟨rfl, rfl, rfl, rfl⟩, rfl, rfl⟩,
   ⟨{ at_ .controlCodeword with rsv := 1, ccq := [(itemOp 5 1).toItem] }, ⟨rfl, rfl, rfl, rfl⟩, rfl, rfl, rfl⟩,
   ⟨{ at_ .controlCodeword with rsv := 1 }, ⟨rfl, rfl, rfl, rfl⟩, rfl, rfl, rfl⟩⟩

theorem test_witness_IdleInvitationCountsByReadingB : ∀ af : Fin 6, ∃ s : State,
    s.Quiet ∧ s.state = .controlCodeword ∧ s.rsv ≤ 1 ∧ s.ccq = [] ∧ s.cfg.alohaStep = alohaB ∧ s.af = af :=
  fun af => ⟨{ at_ .controlCodeword with af := af }, ⟨rfl, rfl, rfl, rfl⟩, rfl, Nat.zero_le _, rfl, rfl, rfl⟩

theorem test_witness_StateTwoMarksOrStaysSilent :
    (∃ s : State, s.Quiet ∧ s.state = .trafficQuiescent ∧ s.tcq ≠ []) ∧
    (∃ s : State, s.Quiet ∧ s.state = .trafficQuiescent ∧ s.tcq = []) :=
  ⟨⟨{ at_ .trafficQuiescent with tcq := [(itemOp 5 1).toItem] }, ⟨rfl, rfl, rfl, rfl⟩, rfl, by simp⟩,
   ⟨at_ .trafficQuiescent, quiet_at _, rfl, rfl⟩⟩

theorem test_witness_StateThreeSendsTrafficOrFaults :
    (∃ s : State, s.Quiet ∧ s.state = .trafficCodeword ∧ s.tcq = [(itemOp 5 1).toItem]) ∧
    (∃ s : State, s.Quiet ∧ s.state = .trafficCodeword ∧ s.tcq = []) :=
  ⟨⟨{ at_ .trafficCodeword with tcq := [(itemOp 5 1).toItem] }, ⟨rfl, rfl, rfl, rfl⟩, rfl, rfl⟩,
   ⟨at_ .trafficCodeword, quiet_at _, rfl, rfl⟩⟩

theorem test_witness_TrafficUnderflowIsTakenAndLeft : (at_ .trafficCodeword).Quiet ∧
    (at_ .trafficCodeword).state = .trafficCodeword ∧ (at_ .trafficCodeword).tcq = [] := ⟨quiet_at _, rfl, rfl⟩

theorem test_witness_StateFourWaits : (at_ .identInProgress).Quiet ∧
    (at_ .identInProgress).state = .identInProgress := ⟨quiet_at _, rfl⟩

theorem test_witness_ReceiveFeedsTheCollector :
    (∀ c : Collector, ∃ s : State, s.running = true ∧ s.rxc = some c) ∧
    (coll 2 4 true).remaining = 2 ∧ (coll 1 4 false).remaining = 1 ∧ (coll 1 4 true).en = true ∧
    (∃ t, applyOps { at_ .beginFrame with answers := [], events := [.rxc 0x22 .success [5]] }
      ((at_ .beginFrame).answers.headD []) = .ok t) :=
  ⟨fun c => ⟨{ at_ .beginFrame with rxc := some c }, rfl, rfl⟩, rfl, rfl, rfl, _, rfl⟩

/-- No receivable variant has the word 0: bit 47 of an addressed word is 1. -/
theorem receivable_ne_zero (d : Variant) (h : receivable d = true) : encode d ≠ BitVec.ofNat 48 0 := by
  intro h0
  have h1 := congrArg BitVec.toNat h0
  cases d <;> simp only [receivable, Bool.false_eq_true] at h <;>
    simp [encode, ackWord, type2Word, addrWord_toNat, samisWord_toNat] at h1

theorem test_witness_ReceiveForwardsWhatDecodes :
    (at_ .beginFrame).running = true ∧ (at_ .beginFrame).rxc = none ∧
    (receivable (.rqr 10 2697 0x1234 0) = true ∧ (Variant.rqr 10 2697 0x1234 0).wf = true ∧
      encode (.rqr 10 2697 0x1234 0) = BitVec.ofNat 48 0x8A544C5491A0) ∧
    (∃ t, applyOps { at_ .beginFrame with answers := [], result := .nothing, events := [.rxfwd 1 (.rqr 10 2697 0x1234 0)] }
      ((at_ .beginFrame).answers.headD []) = .ok t) ∧
    (∀ d : Variant, receivable d = true → encode d ≠ BitVec.ofNat 48 0) :=
  ⟨rfl, rfl, ⟨rfl, by decide +kernel, by decide +kernel⟩, ⟨_, rfl⟩, receivable_ne_zero⟩

/-- A state with everything in use: both queues, a staged and an outstanding collector, a completion and answers. -/
def busy : State :=
  { at_ .controlCodeword with
    rsv := 255
    txcPending := some 65535
    rxcNext := some (coll 255 4 true)
    rxc := some { coll 254 1 true with acc := [5] }
    ccq := [(itemOp 5 255).toItem]
    tcq := [(itemOp 6 0).toItem]
    inbox := [.transaction 6 [], .heard 0x8A544C642560]
    txcAnswers := [⟨[.enqTC (itemOp 7 1)], some 3⟩]
    answers := [[.setIdent [1]]] }

theorem busy_answers : busy.AnswersLegal :=
  ⟨rfl, by intro a ha; simp [busy] at ha; subst ha; decide +kernel,
    by intro a ha; simp [busy] at ha; subst ha; decide +kernel⟩

theorem test_witness_TicksCompleteForLegalAnswers : busy.running = true ∧ busy.AnswersLegal := ⟨rfl, busy_answers⟩

theorem test_witness_LegalHostNeverStopsTheBlock : busy.HostLegal :=
  ⟨busy_answers, by
    intro r hr
    simp only [busy, List.mem_cons, List.not_mem_nil, or_false] at hr
    rcases hr with rfl | rfl
    · exact ⟨.txTick, rfl, rfl⟩
    · exact ⟨.maint 10 2697 37 3 0 0, by decide +kernel, rfl⟩⟩

/-- The invariant holds of the busy state. -/
theorem busy_inv : busy.Inv where
  outstanding := by intro k hk; cases hk; exact ⟨by decide, by decide, by decide, by decide, by decide⟩
  staged := by intro k hk; cases hk; exact ⟨⟨rfl, rfl, by decide, by decide, by decide⟩, rfl⟩
  reservation := by decide
  pendingTag := by intro t ht; cases ht; decide
  controlItems := by intro it hi; simp [busy] at hi; subst hi; exact ⟨by decide, by decide, by decide⟩
  trafficItems := by intro it hi; simp [busy] at hi; subst hi; exact ⟨by decide, by decide, by decide⟩
  depth := by intro d hd; cases hd

/-- A tick of the busy state completes. -/
theorem busy_ticks : ∃ t, exec .txTick busy = .next t := by
  have h : (nextState? (exec .txTick busy)).isSome = true := by decide +kernel
  cases e : exec .txTick busy with
  | next t => exact ⟨t, rfl⟩
  | fault f => cases f
  | refused r => rw [e] at h; cases h

theorem test_witness_StepKeepsTheInvariant : busy.Inv ∧ ∃ t, step busy = .next t := by
  refine ⟨busy_inv, ?_⟩
  have h : (nextState? (step busy)).isSome = true := by decide +kernel
  cases e : step busy with
  | next t => exact ⟨t, rfl⟩
  | fault f => cases f
  | refused r => rw [e] at h; cases h

theorem test_witness_CollectorLengthIsConserved : busy.Inv ∧ ∃ t, exec .txTick busy = .next t ∧ (∃ c, t.rxc = some c) ∧
    exec .txTick { at_ .trafficCodeword with tcq := [(itemOp 6 1).toItem] } =
      .next (sending (.cw 6) (withCompletionsOf (itemOp 6 1).toItem (at_ .trafficQuiescent))) ∧
    (withCompletionsOf (itemOp 6 1).toItem (at_ .trafficQuiescent)).rxcNext.isSome = true :=
  ⟨busy_inv, by
    obtain ⟨t, ht⟩ := busy_ticks
    have h : ((nextState? (exec .txTick busy)).bind (·.rxc)).isSome = true := by decide +kernel
    rw [ht] at h
    exact ⟨t, ht, Option.isSome_iff_exists.mp h, rfl, rfl⟩⟩

/-- The counted collector of the busy state, the staged one, has its whole countdown. -/
theorem busy_live : CountdownLive busy := by intro k hk; cases hk; decide

/-- With no collector the countdown is no obstacle. -/
theorem at_live (st : SeqState) : CountdownLive (at_ st) := by intro k hk; cases hk

theorem test_witness_RegisterWriters : ∃ t, exec .txTick busy = .next t := busy_ticks

theorem test_witness_QueuesAreServedInOrder : Instr.txTick ≠ .reset ∧ ∃ t, exec .txTick busy = .next t :=
  ⟨by decide, busy_ticks⟩

theorem test_witness_StateTransfers : busy.running = true ∧ (∃ t, exec .txTick busy = .next t) ∧
    dispatchState busy = .trafficCodeword ∧ isTraffic .trafficCodeword ≠ isTraffic busy.state ∧
    (∀ st, CountdownLive (at_ st) ∧ (at_ st).running = true ∧ dispatchState (at_ st) = st ∧
      ∃ t, exec .txTick (at_ st) = .next t) :=
  ⟨rfl, busy_ticks, by decide +kernel, by decide, fun st => ⟨at_live st, rfl, rfl, by cases st <;> exact ⟨_, rfl⟩⟩⟩

theorem test_witness_EventsComeInOrder : busy.running = true ∧ CountdownLive busy ∧ (∃ t, exec .txTick busy = .next t) ∧
    (∃ t, exec (.rxTick 5) (at_ .beginFrame) = .next t) ∧ (∃ t, exec .nop busy = .next t) :=
  ⟨rfl, busy_live, busy_ticks, ⟨_, rfl⟩, ⟨_, rfl⟩⟩

theorem test_witness_CompletionBelongsToTheItemSent : busy.running = true ∧ CountdownLive busy ∧
    (∃ t, exec .txTick busy = .next t ∧
      busy.tcq ++ trafficItems (earlierOps busy) = (itemOp 6 0).toItem :: t.tcq) ∧
    (∃ tag, busy.txcPending = some tag) ∧
    (∃ t, exec .txTick { at_ .controlCodeword with ccq := [(itemOp 5 1).toItem] } = .next t ∧ t.ccq = [] ∧
      t.txcPending = some 0x11) ∧
    (∃ t, exec .txTick { at_ .controlCodeword with running := false, txcPending := some 3 } = .next t) :=
  ⟨rfl, busy_live, by
    obtain ⟨t, ht⟩ := busy_ticks
    have h : (nextState? (exec .txTick busy)).map (·.tcq) = some (trafficItems (earlierOps busy)) := by decide +kernel
    rw [ht] at h
    exact ⟨t, ht, by rw [show t.tcq = _ from Option.some.inj h]; rfl⟩, ⟨_, rfl⟩, ⟨_, rfl, rfl, rfl⟩, ⟨_, rfl⟩⟩

theorem test_witness_LifecycleTransactions : ∃ s t : State, s.identPending = some [1] ∧ exec .txTick s = .next t ∧
    t.identPending = none ∧ Event.identStart [1] ∈ t.events :=
  ⟨{ at_ .beginFrame with identPending := some [1] }, _, rfl, rfl, rfl, List.mem_singleton.mpr rfl⟩

theorem test_witness_UnansweredReservationTimesOut : ∃ (s : State) (c : Collector) (r : Request),
    s.running = true ∧ s.txcPending = none ∧ s.rxcNext = some c ∧ c.countdown = 4 ∧ c.en = true ∧ s.ccq = [] ∧
    s.tcq = [] ∧ s.answers = [] ∧ decodeRequest r = .ok .txTick ∧ s.inbox = [r, r, r, r] :=
  ⟨{ at_ .beginFrame with rxcNext := some (coll 1 4 true), inbox := List.replicate 4 (.transaction 6 []) },
    coll 1 4 true, .transaction 6 [], rfl, rfl, rfl, rfl, rfl, rfl, rfl, rfl, rfl, rfl⟩

end Sys2Proof.Tests
end

section
/-! PROOF. The reset table (R30) of the block just powered on: one lemma per register, and the defaults of `INIT_STATE` and
`AF_RESET` (R6). -/

namespace Sys2Proof.Machine

/-! ### `powerOn` (R30, R280) -/

@[simp] theorem State.powerOn_cfg (c : Config) : (State.powerOn c).cfg = c := rfl
@[simp] theorem State.powerOn_state (c : Config) : (State.powerOn c).state = c.initState := rfl
@[simp] theorem State.powerOn_af (c : Config) : (State.powerOn c).af = c.afReset := rfl
@[simp] theorem State.powerOn_rsv (c : Config) : (State.powerOn c).rsv = 0 := rfl
@[simp] theorem State.powerOn_running (c : Config) : (State.powerOn c).running = false := rfl
@[simp] theorem State.powerOn_identPending (c : Config) : (State.powerOn c).identPending = none := rfl
@[simp] theorem State.powerOn_txcPending (c : Config) : (State.powerOn c).txcPending = none := rfl
@[simp] theorem State.powerOn_rxcNext (c : Config) : (State.powerOn c).rxcNext = none := rfl
@[simp] theorem State.powerOn_rxc (c : Config) : (State.powerOn c).rxc = none := rfl
@[simp] theorem State.powerOn_lastTx (c : Config) : (State.powerOn c).lastTx = .none := rfl
@[simp] theorem State.powerOn_ccq (c : Config) : (State.powerOn c).ccq = [] := rfl
@[simp] theorem State.powerOn_tcq (c : Config) : (State.powerOn c).tcq = [] := rfl

/-! ### The defaults of R6, whatever the instance's `SYSCODE`, `CHAN` and `CH_ID` -/

@[simp] theorem defaultConfig_initState (syscode : BitVec 15) (chan : BitVec 10) (chId : ChId) :
    (defaultConfig syscode chan chId).initState = .beginFrame := rfl

@[simp] theorem defaultConfig_afReset (syscode : BitVec 15) (chan : BitVec 10) (chId : ChId) :
    (defaultConfig syscode chan chId).afReset = 0 := rfl

/-! ### The reset state (log 7): the block powered on with the defaults -/

theorem State.reset_eq_powerOn_cfg : State.reset = State.powerOn State.reset.cfg := by
  rw [State.reset, State.powerOn_cfg]

@[simp] theorem State.reset_state : State.reset.state = .beginFrame := by
  rw [State.reset, State.powerOn_state, referenceConfig, defaultConfig_initState]

@[simp] theorem State.reset_af : State.reset.af = 0 := by
  rw [State.reset, State.powerOn_af, referenceConfig, defaultConfig_afReset]

@[simp] theorem SeqState.code_beginFrame : SeqState.beginFrame.code = 0 := rfl

/-- Settles O35: the table register by register, then the two registers the configuration sets, at their defaults. -/
theorem resetLeavesTheTable : Obligations.ResetLeavesTheTable := by
  unfold Obligations.ResetLeavesTheTable
  refine ⟨fun c => ?table, ?state, State.reset_af, State.reset_eq_powerOn_cfg⟩
  case table =>
    exact ⟨State.powerOn_state c, State.powerOn_af c, State.powerOn_rsv c, State.powerOn_running c,
      State.powerOn_identPending c, State.powerOn_txcPending c, State.powerOn_rxcNext c, State.powerOn_rxc c,
      State.powerOn_lastTx c, State.powerOn_ccq c, State.powerOn_tcq c⟩
  case state => rw [State.reset_state, SeqState.code_beginFrame]

end Sys2Proof.Machine
end

section
/-! PROOF. The queue discipline (R49): everything but RESET and step 4 of a running transmit tick only appends to the queues,
and step 4 takes at most one head, from the queue of the state it dispatches on. -/

namespace Sys2Proof.Machine

open Sys2Proof.Spec

/-! ### Queues that are only appended to -/

/-- From `s` to `t` items are only appended to the queues. -/
structure State.QueuesGrow (s t : State) : Prop where
  control : s.ccq <+: t.ccq
  traffic : s.tcq <+: t.tcq

theorem State.QueuesGrow.of_eq {s t : State} (hcc : t.ccq = s.ccq) (htc : t.tcq = s.tcq) : s.QueuesGrow t :=
  ⟨hcc ▸ List.prefix_rfl, htc ▸ List.prefix_rfl⟩

theorem State.QueuesGrow.trans {s t u : State} (hst : s.QueuesGrow t) (htu : t.QueuesGrow u) : s.QueuesGrow u :=
  ⟨hst.control.trans htu.control, hst.traffic.trans htu.traffic⟩

theorem State.applied_queuesGrow (s : State) (ops : List Instr) : s.QueuesGrow (s.applied ops) :=
  ⟨List.prefix_append _ _, List.prefix_append _ _⟩

/-! ### The enqueues and the receive tick -/

theorem execEnqCC_queuesGrow {it : ItemOperand} {s t : State} (h : execEnqCC it s = .next t) : s.QueuesGrow t := by
  obtain ⟨-, -, rfl⟩ := State.pushCC_ok.mp (conclude_next.mp h)
  exact ⟨List.prefix_append _ _, List.prefix_rfl⟩

theorem execEnqTC_queuesGrow {it : ItemOperand} {s t : State} (h : execEnqTC it s = .next t) : s.QueuesGrow t := by
  obtain ⟨-, -, rfl⟩ := State.pushTC_ok.mp (conclude_next.mp h)
  exact ⟨List.prefix_rfl, List.prefix_append _ _⟩

theorem State.collected_queuesGrow (s : State) (c : Collector) (cw : Codeword) : s.QueuesGrow (s.collected c cw) := by
  unfold State.collected
  split
  · split
    · exact (s.applied_queuesGrow s.nextAnswer).trans (.of_eq rfl rfl)
    · exact .of_eq rfl rfl
  · exact .of_eq rfl rfl

theorem State.forward_queuesGrow {s t : State} {cw : Codeword} (h : s.forward cw = .ok t) : s.QueuesGrow t := by
  obtain ⟨-, rfl⟩ | ⟨_, -, -, rfl⟩ := State.forward_ok h
  · exact .of_eq rfl rfl
  · exact (s.applied_queuesGrow s.nextAnswer).trans (.of_eq rfl rfl)

theorem execRxTick_queuesGrow {v : Nat} {s t : State} (h : execRxTick v s = .next t) : s.QueuesGrow t := by
  have hbegin : s.QueuesGrow s.begin := .of_eq s.begin_ccq s.begin_tcq
  obtain ⟨-, ⟨c, -, hc⟩ | ⟨-, hf⟩⟩ | ⟨-, rfl⟩ := execRxTick_next.mp h
  · obtain ⟨rfl, -⟩ := State.collect_ok hc
    exact hbegin.trans (s.begin.collected_queuesGrow c _)
  · exact hbegin.trans (State.forward_queuesGrow hf)
  · exact hbegin

/-- Every instruction but RESET and the transmit tick only appends to the queues. -/
theorem exec_queuesGrow {i : Instr} {s t : State} (hreset : i ≠ .reset) (htick : i ≠ .txTick)
    (h : exec i s = .next t) : s.QueuesGrow t := by
  cases i
  case reset => exact absurd rfl hreset
  case txTick => exact absurd rfl htick
  case enqCC => exact execEnqCC_queuesGrow h
  case enqTC => exact execEnqTC_queuesGrow h
  case rxTick => exact execRxTick_queuesGrow h
  -- Every other instruction answers outright with a state whose queues are those of `s`.
  all_goals exact Host.Outcome.next.inj h ▸ .of_eq rfl rfl

/-! ### The transmit tick: steps 1 to 3 append, step 4 takes at most one head -/

theorem State.afterStep1_queuesGrow (s : State) : s.QueuesGrow s.afterStep1 := by
  unfold State.afterStep1
  split
  · exact .of_eq rfl rfl
  · exact (s.applied_queuesGrow s.nextTxcAnswer.ops).trans (.of_eq rfl rfl)

theorem State.step2_queuesGrow (s : State) : s.QueuesGrow s.step2 :=
  s.step2_eq ▸ .of_eq rfl rfl

theorem State.afterStep3_queuesGrow (s : State) : s.QueuesGrow s.afterStep3 := by
  unfold State.afterStep3
  split
  · exact .of_eq rfl rfl
  · split
    · split
      · exact (s.applied_queuesGrow s.nextAnswer).trans (.of_eq rfl rfl)
      · exact .of_eq rfl rfl
    · exact .of_eq rfl rfl

/-- The state step 4 of a running tick on `s` sees: that after steps 1 to 3 (R210). -/
def State.seenByStep4 (s : State) : State := s.begin.afterStep1.step2.afterStep3

theorem State.seenByStep4_queuesGrow (s : State) : s.QueuesGrow s.seenByStep4 :=
  have hbegin : s.QueuesGrow s.begin := .of_eq s.begin_ccq s.begin_tcq
  hbegin.trans <| s.begin.afterStep1_queuesGrow.trans <|
    s.begin.afterStep1.step2_queuesGrow.trans s.begin.afterStep1.step2.afterStep3_queuesGrow

@[simp] theorem State.step2_state (s : State) : s.step2.state = s.state := by rw [State.step2_eq]

@[simp] theorem State.afterStep3_state (s : State) : s.afterStep3.state = s.state := by
  unfold State.afterStep3
  split
  · rfl
  · split
    · split <;> rfl
    · rfl

/-- Only the override in the answer to `EV_TXC` comes between the register and the dispatch (R212). -/
theorem State.afterStep1_state (s : State) : s.afterStep1.state = dispatchState s := by
  unfold State.afterStep1 dispatchState
  cases s.txcPending with
  | none => rfl
  | some tag => cases s.nextTxcAnswer.newState.bind SeqState.ofCode <;> rfl

theorem State.seenByStep4_state (s : State) : s.seenByStep4.state = dispatchState s := by
  rw [State.seenByStep4, State.afterStep3_state, State.step2_state, State.afterStep1_state]
  rfl

/-- The slot carries the head of the queue `q`, and `q'` is the queue without it. -/
def HeadSent (q q' : List TxItem) (r : Result) : Prop := ∃ it : TxItem, q = it :: q' ∧ r = .slot (.cw it.cw)

/-- Steps 4 and 5 leave the queues alone, or send the head of the queue that belongs to the state. -/
theorem State.step4_close_queues (s : State) :
    (s.step4.close.ccq = s.ccq ∧ s.step4.close.tcq = s.tcq) ∨
    (s.state = .controlCodeword ∧ s.step4.close.tcq = s.tcq ∧ HeadSent s.ccq s.step4.close.ccq s.step4.close.result) ∨
    (s.state = .trafficCodeword ∧ s.step4.close.ccq = s.ccq ∧ HeadSent s.tcq s.step4.close.tcq s.step4.close.result) := by
  rcases s.step4_close_cases with
    ⟨_, -, -, -, hc⟩ | ⟨-, -, hc⟩ | ⟨-, -, hc⟩ | ⟨it, rest, hs, -, hq, hc⟩ | ⟨-, -, -, hc⟩ | ⟨-, -, hc⟩ | ⟨-, -, hc⟩ |
    ⟨it, rest, hs, hq, hc⟩ | ⟨-, -, hc⟩ | ⟨-, hc⟩ <;> rw [hc]
  -- State 1 with a queued item (R216), then state 3 with one (R219).
  case inr.inr.inr.inl => exact .inr (.inl ⟨hs, rfl, it, hq, rfl⟩)
  case inr.inr.inr.inr.inr.inr.inr.inl => exact .inr (.inr ⟨hs, rfl, it, hq, rfl⟩)
  -- The other eight rows of the dispatch send nothing of a queue.
  all_goals exact .inl ⟨rfl, rfl⟩

/-- What a running transmit tick can do to the queues: steps 1 to 3 append to them, then step 4 leaves them alone or sends the
head of the one that belongs to the state it dispatches on. -/
theorem execTxTick_queues {s t : State} (hrun : s.running = true) (h : execTxTick s = .next t) :
    ∃ newCC newTC : List TxItem,
      (t.ccq = s.ccq ++ newCC ∧ t.tcq = s.tcq ++ newTC) ∨
      (dispatchState s = .controlCodeword ∧ t.tcq = s.tcq ++ newTC ∧ HeadSent (s.ccq ++ newCC) t.ccq t.result) ∨
      (dispatchState s = .trafficCodeword ∧ t.ccq = s.ccq ++ newCC ∧ HeadSent (s.tcq ++ newTC) t.tcq t.result) := by
  obtain ⟨-, htick⟩ | ⟨hstop, -⟩ := execTxTick_next.mp h
  · have ht : t = s.seenByStep4.step4.close := (State.tick_ok htick).1
    obtain ⟨⟨newCC, hcc⟩, ⟨newTC, htc⟩⟩ := s.seenByStep4_queuesGrow
    have hcases := s.seenByStep4.step4_close_queues
    rw [← ht, ← hcc, ← htc, State.seenByStep4_state] at hcases
    exact ⟨newCC, newTC, hcases⟩
  · exact absurd hrun (by simp [hstop])

/-- A transmit tick of a stopped block leaves the queues alone (R211). -/
theorem execTxTick_stopped_queuesGrow {s t : State} (hstop : s.running = false) (h : execTxTick s = .next t) :
    s.QueuesGrow t := by
  obtain ⟨hrun, -⟩ | ⟨-, rfl⟩ := execTxTick_next.mp h
  · exact absurd hstop (by simp [hrun])
  · exact .of_eq rfl rfl

/-- Settles O56: a running transmit tick by its three cases, everything else by the queues that only grow. -/
theorem queuesAreServedInOrder : Obligations.QueuesAreServedInOrder := by
  unfold Obligations.QueuesAreServedInOrder
  intro i s t hreset h
  by_cases hserving : i = .txTick ∧ s.running = true
  case pos =>
    obtain ⟨rfl, hrun⟩ := hserving
    obtain ⟨newCC, newTC, hqueues | ⟨hd, htc, hsent⟩ | ⟨hd, hcc, hsent⟩⟩ := execTxTick_queues hrun h
    · exact ⟨newCC, newTC, .inl hqueues⟩
    · exact ⟨newCC, newTC, .inr (.inl ⟨rfl, hrun, hd, htc, hsent⟩)⟩
    · exact ⟨newCC, newTC, .inr (.inr ⟨rfl, hrun, hd, hcc, hsent⟩)⟩
  case neg =>
    have hgrow : s.QueuesGrow t := by
      by_cases htick : i = .txTick
      · subst htick
        exact execTxTick_stopped_queuesGrow (by simpa using hserving) h
      · exact exec_queuesGrow hreset htick h
    obtain ⟨⟨newCC, hcc⟩, ⟨newTC, htc⟩⟩ := hgrow
    exact ⟨newCC, newTC, .inl ⟨hcc.symm, htc.symm⟩⟩

end Sys2Proof.Machine
end

section
/-! PROOF. The packed forms of results and operands: `TxOut` as bits (R75) and the packed item operand (R73). -/

namespace Sys2Proof.Machine

/-! ### `TxOut` as bits (R75) -/

/-- Reading the bits of a `TxOut` gives it back: the clause of R75's form that the model does keep. -/
theorem TxOut.ofBits_bits (o : TxOut) : TxOut.ofBits o.bits = some o := by
  cases o with
  | none => rw [TxOut.bits, TxOut.ofBits, slot_kind]; rfl
  | cw w => rw [TxOut.bits, TxOut.ofBits, slot_kind, slot_data]; rfl
  | mark => rw [TxOut.bits, TxOut.ofBits, slot_kind]; rfl

/-- The model reads the reserved kind 3 as NONE: in the last branch of `TxOut.ofBits` the name `none` stands inside the
namespace `TxOut`, so it is `TxOut.none`, coerced to `some TxOut.none`, and not the `Option.none` that R75 asks for. -/
theorem ofBits_reserved_kind (data : Codeword) : TxOut.ofBits (3#2 ++ data) = some TxOut.none := by
  rw [TxOut.ofBits, slot_kind]; rfl

/-- Refutes O6: the word of kind 3 over data 0 is read as NONE, where the statement has it read as no `TxOut`. -/
theorem not_txOutBitsRoundTrip : ¬ Obligations.TxOutBitsRoundTrip := by
  unfold Obligations.TxOutBitsRoundTrip
  rintro ⟨-, -, -, -, hreading⟩
  obtain ⟨-, -, -, hreserved⟩ := hreading 0
  have hnone : TxOut.ofBits (3#2 ++ (0 : Codeword)) = some TxOut.none := ofBits_reserved_kind 0
  exact Option.some_ne_none TxOut.none (hnone.symm.trans hreserved)

/-! ### A field put below a word -/

/-- The word `w` with a field of `k` bits put below it. -/
def putField (w k v : Nat) : Nat := w * 2 ^ k + mask k v

@[simp] theorem putField_mod (w k v : Nat) : putField w k v % 2 ^ k = mask k v := by
  rw [putField, Nat.mul_add_mod_self_right, mask, Nat.mod_mod]

@[simp] theorem putField_div (w k v : Nat) : putField w k v / 2 ^ k = w := by
  rw [putField, Nat.add_comm, Nat.add_mul_div_right _ _ (Nat.two_pow_pos k), Nat.div_eq_of_lt (mask_lt k v),
    Nat.zero_add]

theorem putField_lt {w n : Nat} (hw : w < 2 ^ n) (k v : Nat) : putField w k v < 2 ^ (n + k) := by
  rw [putField, Nat.mul_comm, Nat.pow_add]
  exact Nat.mul_add_lt_mul_of_lt_of_lt hw (mask_lt k v)

/-- Putting a field in range below a word is a shift and an or. -/
theorem putField_eq_or {k v : Nat} (hv : v < 2 ^ k) (w : Nat) : putField w k v = w <<< k ||| v := by
  rw [putField, mask, Nat.mod_eq_of_lt hv, ← Nat.shiftLeft_eq, Nat.shiftLeft_add_eq_or_of_lt hv]

/-! ### A flag is a field of one bit -/

@[simp] theorem mask_flag (b : Bool) : mask 1 b.toNat = b.toNat := Nat.mod_eq_of_lt b.toNat_lt

@[simp] theorem putField_flag_div (w : Nat) (b : Bool) : putField w 1 b.toNat / 2 = w := putField_div w 1 b.toNat

@[simp] theorem putField_flag_mod (w : Nat) (b : Bool) : putField w 1 b.toNat % 2 = b.toNat :=
  (putField_mod w 1 b.toNat).trans (mask_flag b)

/-! ### The packed item (R73) -/

/-- A number is within the width that `rlenWidth` gives the reply length (log 20). -/
theorem lt_two_pow_rlenWidth {n : Nat} {c : Config} (h : n ≤ c.rlenMax) : n < 2 ^ c.rlenWidth :=
  h.trans_lt Nat.lt_log2_self

theorem representable_iff {it : ItemOperand} {c : Config} : it.representable c = true ↔
    it.rlen ≤ c.rlenMax ∧ it.txcTag < 2 ^ c.tagw ∧ it.rxcTag < 2 ^ c.tagw := by
  simp [ItemOperand.representable, and_assoc]

/-- The packed item is its six fields put below one another, `cw` first. -/
theorem pack_eq_putField (it : ItemOperand) (c : Config) : it.pack c =
    putField (putField (putField (putField (putField (mask 48 it.cw) 1 it.txcEn.toNat) c.tagw it.txcTag)
      c.rlenWidth it.rlen) 1 it.rxcEn.toNat) c.tagw it.rxcTag := by
  simp only [putField, mask_flag]
  rfl

/-- The packed item has as many bits as its fields together. -/
theorem pack_lt (it : ItemOperand) (c : Config) : it.pack c < 2 ^ (48 + 1 + c.tagw + c.rlenWidth + 1 + c.tagw) := by
  rw [pack_eq_putField]
  exact putField_lt (putField_lt (putField_lt (putField_lt (putField_lt (mask_lt 48 _) _ _) _ _) _ _) _ _) _ _

/-- Unpacking takes the fields off again in the reverse order. -/
theorem unpack_pack {it : ItemOperand} {c : Config} (hwf : it.wf = true) (hrep : it.representable c = true) :
    ItemOperand.unpack c (it.pack c) = it := by
  obtain ⟨hrlen, htxc, hrxc⟩ := representable_iff.mp hrep
  have hrlenFits : fits c.rlenWidth it.rlen = true := decide_eq_true (lt_two_pow_rlenWidth hrlen)
  simp [pack_eq_putField, ItemOperand.unpack, mask_of_fits hwf, mask_of_fits hrlenFits,
    mask_of_fits (decide_eq_true htxc), mask_of_fits (decide_eq_true hrxc)]

/-- The fields of the packed item stand side by side, each above the widths of those after it. -/
theorem pack_eq_or {it : ItemOperand} {c : Config} (hwf : it.wf = true) (hrep : it.representable c = true) :
    it.pack c = it.cw <<< (1 + c.tagw + c.rlenWidth + 1 + c.tagw)
      ||| it.txcEn.toNat <<< (c.tagw + c.rlenWidth + 1 + c.tagw)
      ||| it.txcTag <<< (c.rlenWidth + 1 + c.tagw)
      ||| it.rlen <<< (1 + c.tagw) ||| it.rxcEn.toNat <<< c.tagw ||| it.rxcTag := by
  obtain ⟨hrlen, htxc, hrxc⟩ := representable_iff.mp hrep
  rw [pack_eq_putField, mask_of_fits hwf, putField_eq_or hrxc, putField_eq_or (Bool.toNat_lt _),
    putField_eq_or (lt_two_pow_rlenWidth hrlen), putField_eq_or htxc, putField_eq_or (Bool.toNat_lt _)]
  simp only [Nat.shiftLeft_or_distrib, ← Nat.shiftLeft_add]

/-- A reply length of at most 255 takes 8 bits (R73). -/
theorem rlenWidth_of_255 {c : Config} (h : c.rlenMax = 255) : c.rlenWidth = 8 := by
  rw [Config.rlenWidth, h]
  decide

/-- Settles O7: the three claims are `pack_eq_or`, `unpack_pack` and `pack_lt` with a reply length of 8 bits. -/
theorem packedItemRoundTrips : Obligations.PackedItemRoundTrips := by
  unfold Obligations.PackedItemRoundTrips
  intro c it hmax hwf hrep
  have hwidth : c.rlenWidth = 8 := rlenWidth_of_255 hmax
  refine ⟨?order, unpack_pack hwf hrep, ?bits⟩
  case order =>
    have hcw : 1 + c.tagw + 8 + 1 + c.tagw = 2 * c.tagw + 10 := by omega
    have htxcEn : c.tagw + 8 + 1 + c.tagw = 2 * c.tagw + 9 := by omega
    have htxcTag : 8 + 1 + c.tagw = c.tagw + 9 := by omega
    have h := pack_eq_or hwf hrep
    rwa [hwidth, hcw, htxcEn, htxcTag, Nat.add_comm 1 c.tagw] at h
  case bits =>
    intro htagw
    have h := pack_lt it c
    rwa [hwidth, htagw] at h

end Sys2Proof.Machine
end

section
/-! PROOF. The codec's words as packing expressions (R110 to R153): each layout is its fields shifted and ored, so `encode`
of a variant that has a packing expression has its value. -/

namespace Sys2Proof.Machine

open Sys2Proof.Spec

/-- The fields above the lowest one are shifted together; this shifts them one by one. -/
theorem shiftLeft_or_or (a b c k : Nat) : (a ||| b) <<< k ||| c = a <<< k ||| (b <<< k ||| c) := by
  rw [Nat.shiftLeft_or_distrib, Nat.or_assoc]

/-! ### Parameter fields (R67) -/

/-- A parameter field that begins with `IDENT2`. -/
theorem ident2Param_toNat_or (ident2 : Nat) (low : BitVec 5) :
    (ident2Param ident2 low).toNat = mask 13 ident2 <<< 5 ||| low.toNat := by
  rw [ident2Param, BitVec.toNat_append, field_toNat]

/-- Five one-bit fields. -/
theorem flags5_toNat_or (b4 b3 b2 b1 b0 : Nat) : (flags5 b4 b3 b2 b1 b0).toNat =
    mask 1 b4 <<< 4 ||| mask 1 b3 <<< 3 ||| mask 1 b2 <<< 2 ||| mask 1 b1 <<< 1 ||| mask 1 b0 := by
  simp only [flags5, BitVec.toNat_append, field_toNat, shiftLeft_or_or, Nat.or_assoc, ← Nat.shiftLeft_add]

/-! ### The layouts that begin with the header (R110) -/

/-- An addressed word is its header and its parameter field (R63). -/
theorem addrWord_toNat_or (pfix ident1 type func : Nat) (p : BitVec 18) :
    (addrWord pfix ident1 type func p).toNat = hdr pfix ident1 (mask 2 type) (mask 3 func) ||| p.toNat := by
  simp only [addrWord, hdr, BitVec.toNat_append, field_toNat, BitVec.toNat_ofNat, shiftLeft_or_or, Nat.or_assoc,
    ← Nat.shiftLeft_add]

/-- `ALHfam` (R114). -/
theorem alhWord_toNat_or (func pfix ident1 chan4 wt rsvd m n : Nat) :
    (alhWord func pfix ident1 chan4 wt rsvd m n).toNat = alhFam (mask 3 func) pfix ident1 chan4 wt rsvd m n := by
  rw [alhWord, addrWord_toNat_or]
  simp only [alhFam, BitVec.toNat_append, field_toNat, shiftLeft_or_or, Nat.or_assoc, ← Nat.shiftLeft_add]
  rfl

/-- `ACKfam` (R122). -/
theorem ackWord_toNat_or (func pfix ident1 ident2 qual n : Nat) :
    (ackWord func pfix ident1 ident2 qual n).toNat = ackFam (mask 3 func) pfix ident1 ident2 qual n := by
  rw [ackWord, addrWord_toNat_or, ident2Param_toNat_or]
  simp only [ackFam, BitVec.toNat_append, field_toNat, Nat.or_assoc]
  rfl

/-- `T2` over an `IDENT2` and five low bits (R131). -/
theorem type2Word_toNat_or (func pfix ident1 ident2 : Nat) (low : BitVec 5) :
    (type2Word func pfix ident1 ident2 low).toNat =
      t2 (mask 3 func) pfix ident1 (mask 13 ident2 <<< 5 ||| low.toNat) := by
  rw [type2Word, addrWord_toNat_or, ident2Param_toNat_or]
  rfl

/-! ### The layouts with fields of their own -/

/-- Format GTC (R113). -/
theorem gtcWord_toNat_or (pfix ident1 d chan ident2 n2 : Nat) : (gtcWord pfix ident1 d chan ident2 n2).toNat =
    1 <<< 47 ||| mask 7 pfix <<< 40 ||| mask 13 ident1 <<< 27 ||| 0 <<< 26 ||| mask 1 d <<< 25
      ||| mask 10 chan <<< 15 ||| mask 13 ident2 <<< 2 ||| mask 2 n2 := by
  simp only [gtcWord, BitVec.toNat_append, field_toNat, BitVec.toNat_ofNat, shiftLeft_or_or, Nat.or_assoc,
    ← Nat.shiftLeft_add]

/-- Format CLEAR (R144). -/
theorem clearWord_toNat_or (chan cont rsvd spare : Nat) : (clearWord chan cont rsvd spare).toNat =
    1 <<< 47 ||| mask 10 chan <<< 37 ||| mask 10 cont <<< 27 ||| 1 <<< 26 ||| 0 <<< 23 ||| 3 <<< 21 ||| 2 <<< 18
      ||| mask 4 rsvd <<< 14 ||| mask 2 spare <<< 12 ||| 0xAAA := by
  simp only [clearWord, BitVec.toNat_append, field_toNat, BitVec.toNat_ofNat, shiftLeft_or_or, Nat.or_assoc,
    ← Nat.shiftLeft_add]

/-- Format BCAST (R146). -/
theorem bcastWord_toNat_or (sysdef p15 p18 : Nat) : (bcastWord sysdef p15 p18).toNat = bcast sysdef p15 p18 := by
  simp only [bcastWord, bcast, BitVec.toNat_append, field_toNat, BitVec.toNat_ofNat, shiftLeft_or_or, Nat.or_assoc,
    ← Nat.shiftLeft_add]

/-- Format SAM (R153). -/
theorem samisWord_toNat_or (p1 p2 : Nat) : (samisWord p1 p2).toNat = samis p1 p2 := by
  simp only [samisWord, samis, BitVec.toNat_append, field_toNat, BitVec.toNat_ofNat, shiftLeft_or_or, Nat.or_assoc,
    ← Nat.shiftLeft_add]

/-! ### Encode of every variant -/

/-- Where a variant has a packing expression, `encode` has its value, whatever the fields (R110). -/
theorem encode_toNat_of_packed {v : Variant} {n : Nat} (h : packed v = some n) : (encode v).toNat = n := by
  cases v
  case ccsc | dcsc => exact absurd h.symm (Option.some_ne_none n)
  all_goals obtain rfl := Option.some.inj h
  case gtc => exact gtcWord_toNat_or ..
  case alhFam => exact alhWord_toNat_or ..
  case ackFam => exact ackWord_toNat_or ..
  case clear => exact clearWord_toNat_or ..
  case bcast => exact bcastWord_toNat_or ..
  case samis => exact samisWord_toNat_or ..
  -- TYPE 2, by what stands below `IDENT2`: five flags, one field of five bits, or a field of two bits and the rest.
  case ahy | rqs | rqe =>
    simp only [encode, type2Word_toNat_or, flags5_toNat_or, Nat.or_assoc]
    rfl
  case ahyx | ahyq | rqx | rqq =>
    simp only [encode, type2Word_toNat_or, field_toNat]
    rfl
  case ahyc | rqt | rqc =>
    simp only [encode, type2Word_toNat_or, BitVec.toNat_append, field_toNat, shiftLeft_or_or, Nat.or_assoc,
      ← Nat.shiftLeft_add]
    rfl
  -- The addressed words without an `IDENT2`.
  case rqr | maint | move =>
    simp only [encode, addrWord_toNat_or, BitVec.toNat_append, field_toNat, shiftLeft_or_or, Nat.or_assoc,
      ← Nat.shiftLeft_add]
    rfl

/-- Only the two synchronisation codewords have no packing expression: theirs is `SyncCW` (R111, R112). -/
theorem packed_eq_none {v : Variant} (h : packed v = none) : ∃ sys, v = .ccsc sys ∨ v = .dcsc sys := by
  cases v
  case ccsc sys => exact ⟨sys, .inl rfl⟩
  case dcsc sys => exact ⟨sys, .inr rfl⟩
  all_goals exact absurd h (Option.some_ne_none _)

/-- Settles O12: the synchronisation codewords by definition, every other variant by its layout. -/
theorem encodePacksTheTransmitSide : Obligations.EncodePacksTheTransmitSide := by
  unfold Obligations.EncodePacksTheTransmitSide
  exact ⟨fun _ => ⟨rfl, rfl⟩, fun _ _ _ hpacked => encode_toNat_of_packed hpacked, fun _ => packed_eq_none⟩

/-- Settles O13: every variant a radio unit can send by its layout. -/
theorem encodePacksTheRadioSide : Obligations.EncodePacksTheRadioSide := by
  unfold Obligations.EncodePacksTheRadioSide
  exact fun _ _ _ hpacked => encode_toNat_of_packed hpacked

end Sys2Proof.Machine
end

section
/-! PROOF. The FCS and the synchronisation codewords as maps that are affine over GF(2) (R92): such a map is known from its
values at 0 and at the single bits, so that R94 and R95 need 16 codewords of each family and not 32768. -/

namespace Sys2Proof.Machine

/-! ### Maps that are affine over GF(2) -/

/-- The map `f` is affine over GF(2): linear up to the constant `f 0` (R92 b). -/
def Affine {n m : Nat} (f : BitVec n → BitVec m) : Prop := ∀ a b, f (a ^^^ b) = f a ^^^ f b ^^^ f 0#n

section Affine

variable {n m k : Nat} {f g : BitVec n → BitVec m}

theorem Affine.const (c : BitVec m) : Affine fun _ : BitVec n => c := fun _ _ => by simp

theorem Affine.id : Affine fun x : BitVec n => x := fun _ _ => by simp

theorem Affine.xor (hf : Affine f) (hg : Affine g) : Affine fun x => f x ^^^ g x := fun a b => by
  simp only [hf a b, hg a b]; ac_rfl

theorem Affine.append {g : BitVec n → BitVec k} (hf : Affine f) (hg : Affine g) : Affine fun x => f x ++ g x :=
  fun a b => by simp only [hf a b, hg a b, BitVec.xor_append]

theorem Affine.extract (hf : Affine f) (lo len : Nat) : Affine fun x => (f x).extractLsb' lo len :=
  fun a b => by simp only [hf a b, BitVec.extractLsb'_xor]

theorem Affine.setWidth (hf : Affine f) (v : Nat) : Affine fun x => (f x).setWidth v :=
  fun a b => by simp only [hf a b, BitVec.setWidth_xor]

theorem Affine.and_const (hf : Affine f) (c : BitVec m) : Affine fun x => f x &&& c := fun a b => by
  refine BitVec.eq_of_getLsbD_eq fun i _ => ?_
  cases hc : c.getLsbD i <;> simp [hf a b, hc]

theorem Affine.comp {h : BitVec m → BitVec k} (hh : Affine h) (hf : Affine f) : Affine fun x => h (f x) := fun a b =>
  calc h (f (a ^^^ b))
    _ = h (f a) ^^^ h (f b) ^^^ h 0#m ^^^ h (f 0#n) ^^^ h 0#m := by rw [hf a b, hh, hh (f a)]
    _ = h (f a) ^^^ h (f b) ^^^ h (f 0#n) ^^^ (h 0#m ^^^ h 0#m) := by ac_rfl
    _ = h (f a) ^^^ h (f b) ^^^ h (f 0#n) := by simp

/-- Two affine maps that agree on 0 and on every single bit agree on every word whose bits from `j` on are clear. -/
theorem Affine.eq_of_low (hf : Affine f) (hg : Affine g) (hzero : f 0#n = g 0#n)
    (hbit : ∀ i < n, f (BitVec.twoPow n i) = g (BitVec.twoPow n i)) {j : Nat} (hj : j ≤ n) (x : BitVec n)
    (hx : ∀ i, j ≤ i → x.getLsbD i = false) : f x = g x := by
  induction j generalizing x with
  | zero => rw [show x = 0#n from BitVec.eq_of_getLsbD_eq fun i _ => by simp [hx i]]; exact hzero
  | succ j ih =>
    cases htop : x.getLsbD j with
    | false =>
      exact ih (by omega) x fun i hi => (Nat.eq_or_lt_of_le hi).elim (fun h => h ▸ htop) (hx i)
    | true =>
      have hrest : f (x ^^^ BitVec.twoPow n j) = g (x ^^^ BitVec.twoPow n j) := by
        refine ih (by omega) _ fun i hi => ?_
        obtain rfl | hlt := Nat.eq_or_lt_of_le hi
        · simp [htop, BitVec.getLsbD_twoPow]; omega
        · simp [hx i hlt, BitVec.getLsbD_twoPow]; omega
      have hsplit : x = x ^^^ BitVec.twoPow n j ^^^ BitVec.twoPow n j := by rw [BitVec.xor_assoc]; simp
      rw [hsplit, hf, hg, hrest, hbit j (by omega), hzero]

/-- Two affine maps that agree on 0 and on every single bit are the same map. -/
theorem Affine.ext (hf : Affine f) (hg : Affine g) (hzero : f 0#n = g 0#n)
    (hbit : ∀ i < n, f (BitVec.twoPow n i) = g (BitVec.twoPow n i)) (x : BitVec n) : f x = g x :=
  hf.eq_of_low hg hzero hbit le_rfl x fun i hi => BitVec.getLsbD_of_ge x i hi

end Affine

/-! ### The FCS (R91, R92) -/

/-- The engine run from its starting registers: over an exclusive or it gives the exclusive or of the runs (R91). -/
theorem fcsRun_init_xor (a b : Codeword) (n : Nat) :
    fcsRun (a ^^^ b) n fcsInit = (fcsRun a n fcsInit).xor (fcsRun b n fcsInit) := fcsRun_xor a b n fcsInit fcsInit

theorem fcsRun_zero_init (n : Nat) : fcsRun 0#48 n fcsInit = fcsInit := by
  induction n with
  | zero => rfl
  | succ n ih => rw [fcsRun, BitVec.getLsbD_zero]; exact ih

/-- The check register after a codeword, inverted and masked (R91). -/
def fcsUpper (cw : Codeword) : Check := ((fcsRun cw 48 fcsInit).ck ^^^ fcsFinalXor) &&& fcsMask

/-- The final parity bit (R91). -/
def fcsParity (cw : Codeword) : BitVec 1 := .ofBool (fcsRun cw 48 fcsInit).par ^^^ .ofBool (parityOf (fcsUpper cw) 16)

/-- Where one word leaves bit 0 clear and the other has no bit but bit 0, putting them together is an exclusive or. -/
theorem or_eq_xor_of_bit_zero {w : Nat} {x y : BitVec w} (hx : x.getLsbD 0 = false)
    (hy : ∀ i, y.getLsbD (i + 1) = false) : x ||| y = x ^^^ y := by
  refine BitVec.eq_of_getLsbD_eq fun i _ => ?_
  cases i with
  | zero => rw [BitVec.getLsbD_or, BitVec.getLsbD_xor, hx, Bool.false_or, Bool.false_xor]
  | succ i => rw [BitVec.getLsbD_or, BitVec.getLsbD_xor, hy, Bool.or_false, Bool.xor_false]

/-- The mask leaves bit 0 to the parity (R91). -/
theorem fcs_eq_xor (cw : Codeword) : fcs cw = fcsUpper cw ^^^ (fcsParity cw).setWidth 16 := by
  have hfcs : fcs cw = fcsUpper cw ||| (fcsParity cw).setWidth 16 := by rw [fcsParity, BitVec.ofBool_xor_ofBool]; rfl
  rw [hfcs]
  exact or_eq_xor_of_bit_zero (by simp [fcsUpper, fcsMask]) fun i => by simp [BitVec.getLsbD_setWidth]

theorem fcsRun_ck_affine (n : Nat) : Affine fun cw => (fcsRun cw n fcsInit).ck := fun a b => by
  simp only [fcsRun_init_xor, fcsRun_zero_init, FcsRegs.xor]
  simp [fcsInit]

theorem fcsRun_par_affine (n : Nat) : Affine fun cw => BitVec.ofBool (fcsRun cw n fcsInit).par := fun a b => by
  simp only [fcsRun_init_xor, fcsRun_zero_init, FcsRegs.xor, ← BitVec.ofBool_xor_ofBool]
  simp [fcsInit]

theorem parityOf_affine : Affine fun ck => BitVec.ofBool (parityOf ck 16) := fun a b => by
  simp only [parityOf_xor, ← BitVec.ofBool_xor_ofBool]
  simp [parityOf]

theorem fcsUpper_affine : Affine fcsUpper := ((fcsRun_ck_affine 48).xor (.const fcsFinalXor)).and_const fcsMask

theorem fcsParity_affine : Affine fcsParity := (fcsRun_par_affine 48).xor (parityOf_affine.comp fcsUpper_affine)

/-- The FCS is affine over GF(2) (R92 b). -/
theorem fcs_affine : Affine fcs := by
  rw [funext fcs_eq_xor]
  exact fcsUpper_affine.xor (fcsParity_affine.setWidth 16)

/-! ### The synchronisation codewords (R93 to R95) -/

/-- The marker bit `x` of R93. -/
def syncMarker (s : BitVec 15) (fam : SyncFamily) : BitVec 1 :=
  (fcs (syncPreimage s fam)).setWidth 1 ^^^ .ofBool fam.expect

/-- What the marker `x` changes in the FCS of the preimage, whose bit 0 it forces to 1 (R93, R92 b). -/
def forcedChange (x : BitVec 1) : Check := if x = 1#1 then fcs 1#48 ^^^ fcs 0#48 else 0#16

theorem syncMarker_eq_ofBool (s : BitVec 15) (fam : SyncFamily) :
    syncMarker s fam = .ofBool ((fcs (syncPreimage s fam)).getLsbD 0 != fam.expect) := by
  rw [syncMarker, BitVec.setWidth_one, BitVec.ofBool_xor_ofBool, Bool.bne_eq_xor]

theorem forcedChange_affine : Affine forcedChange := by unfold Affine; decide +kernel

theorem syncPreimage_affine (fam : SyncFamily) : Affine fun s => syncPreimage s fam :=
  (((Affine.const 0xAAAA#16).append (Affine.const fam.pre16)).append Affine.id).append (Affine.const 0#1)

/-- Bit 0 of the preimage is clear, so forcing it to 1 is an exclusive or (R93). -/
theorem syncPreimage_or_one (s : BitVec 15) (fam : SyncFamily) :
    syncPreimage s fam ||| 1#48 = syncPreimage s fam ^^^ 1#48 :=
  or_eq_xor_of_bit_zero (by rw [syncPreimage, BitVec.getLsbD_append]; rfl) fun i => by simp

/-- The completion sequence of R93 without its case split: the marker's choice of the preimage is an exclusive or. -/
theorem completion_eq (s : BitVec 15) (fam : SyncFamily) : completion s fam = syncMarker s fam ++
    ((fcs (syncPreimage s fam) ^^^ forcedChange (syncMarker s fam)).extractLsb' 1 15 ^^^ 1#15) := by
  rw [syncMarker_eq_ofBool, completion, syncPreimage_or_one, fcs_affine, forcedChange]
  cases (fcs (syncPreimage s fam)).getLsbD 0 != fam.expect
  · simp
  · simp [BitVec.xor_assoc]

theorem syncCW_affine (fam : SyncFamily) : Affine fun s => syncCW s fam := by
  have hfcs : Affine fun s => fcs (syncPreimage s fam) := fcs_affine.comp (syncPreimage_affine fam)
  have hmarker : Affine fun s => syncMarker s fam := (hfcs.setWidth 1).xor (Affine.const _)
  have hcompletion : Affine fun s => completion s fam := by
    simp only [completion_eq]
    exact hmarker.append (((hfcs.xor (forcedChange_affine.comp hmarker)).extract 1 15).xor (Affine.const _))
  exact (((Affine.const 0#1).append Affine.id).append hcompletion).append (Affine.const _)

/-- Every synchronisation codeword has the synchronisation word of its family as its FCS (R94, R95). -/
theorem fcs_syncCW (s : BitVec 15) (fam : SyncFamily) : fcs (syncCW s fam) = fam.sync := by
  have hzero : fcs (syncCW 0#15 fam) = fam.sync := by cases fam <;> decide +kernel
  have hbit : ∀ i < 15, fcs (syncCW (BitVec.twoPow 15 i) fam) = fam.sync := by cases fam <;> decide +kernel
  exact (fcs_affine.comp (syncCW_affine fam)).ext (Affine.const fam.sync) hzero hbit s

/-! ### The format of a synchronisation codeword (R61) -/

/-- The value of a synchronisation codeword: the system code over the completion sequence and the preamble (R61, R93). -/
theorem syncCW_toNat (s : BitVec 15) (fam : SyncFamily) :
    (syncCW s fam).toNat = s.toNat * 2 ^ 32 + (completion s fam).toNat * 2 ^ 16 + 0xAAAA := by
  simp only [syncCW, append_toNat_add, preamble, BitVec.toNat_ofNat]
  omega

theorem slice_syncCW_top (s : BitVec 15) (fam : SyncFamily) : slice (syncCW s fam) 47 47 = 0 := by
  rw [slice, syncCW_toNat]; omega

theorem slice_syncCW_sys (s : BitVec 15) (fam : SyncFamily) : slice (syncCW s fam) 46 32 = s.toNat := by
  rw [slice, syncCW_toNat]; omega

theorem slice_syncCW_preamble (s : BitVec 15) (fam : SyncFamily) : slice (syncCW s fam) 15 0 = 0xAAAA := by
  rw [slice, syncCW_toNat]; omega

end Sys2Proof.Machine
end

section
/-! PROOF. ENC (R199): the packed variants by their layouts, the synchronisation codewords by their format and their FCS. -/

namespace Sys2Proof.Machine

open Sys2Proof.Spec

/-- An instruction that answers `SyncCW(sys, fam)` and changes nothing has all that `AnswersSync` asks for. -/
theorem answersSync_of_exec {i : Instr} {sys : Nat} {fam : SyncFamily}
    (h : ∀ s : State, exec i s = .next { s with result := .code (syncCW (field 15 sys) fam), events := [] }) :
    AnswersSync i sys fam fam.sync :=
  ⟨syncCW (field 15 sys) fam, rfl, slice_syncCW_top _ fam, (slice_syncCW_sys _ fam).trans (field_toNat 15 sys),
    slice_syncCW_preamble _ fam, fcs_syncCW _ fam, h⟩

/-- ENC in every state: the codeword of the variant, and nothing else changes (R199). -/
theorem exec_enc (v : Variant) (s : State) :
    exec (.enc v) s = .next { s with result := .code (encode v), events := [] } := answerCode_eq v s

/-- Settles O32: a packed variant by its packing expression, the two others by their synchronisation codeword. -/
theorem encTransaction : Obligations.EncTransaction := by
  unfold Obligations.EncTransaction
  refine ⟨fun v n hpacked => ?packed, fun sys => ?sync, fun _ => packed_eq_none⟩
  case packed => exact ⟨encode v, encode_toNat_of_packed hpacked, exec_enc v⟩
  case sync => exact ⟨answersSync_of_exec (exec_enc (.ccsc sys)), answersSync_of_exec (exec_enc (.dcsc sys))⟩

end Sys2Proof.Machine
end

section
/-! PROOF. The lifecycle of the block: STOP and the gates of the two ticks (R193, R211, R240), RESET (R202), and what becomes of
a pending identification payload (R196, R215). -/

namespace Sys2Proof.Machine

open Sys2Proof.Spec

/-! ### STOP and the gates (R193, R211, R240) -/

theorem State.collected_result (s : State) (c : Collector) (cw : Codeword) : (s.collected c cw).result = s.result := by
  unfold State.collected
  split
  · split <;> rfl
  · rfl

theorem State.forward_result {s t : State} {cw : Codeword} (h : s.forward cw = .ok t) : t.result = s.result := by
  obtain ⟨-, rfl⟩ | ⟨_, -, -, rfl⟩ := State.forward_ok h <;> rfl

/-- A receive tick that is not refused returns nothing, on either path (R240, R242, R243). -/
theorem execRxTick_result {v : Nat} {s t : State} (h : execRxTick v s = .next t) : t.result = .nothing := by
  obtain ⟨-, ⟨c, -, hc⟩ | ⟨-, hf⟩⟩ | ⟨-, rfl⟩ := execRxTick_next.mp h
  · obtain ⟨rfl, -⟩ := State.collect_ok hc
    exact s.begin.collected_result c _
  · exact State.forward_result hf
  · rfl

/-- Settles O28: STOP by definition, the two gates by what the ticks can do. -/
theorem stopMakesTheTicksIgnored : Obligations.StopMakesTheTicksIgnored := by
  unfold Obligations.StopMakesTheTicksIgnored
  refine ⟨fun _ => rfl, fun s v hstop => ?gates, fun _ _ _ h => execRxTick_result h⟩
  case gates => exact ⟨execTxTick_next.mpr (.inr ⟨hstop, rfl⟩), execRxTick_next.mpr (.inr ⟨hstop, rfl⟩)⟩

/-! ### RESET (R202) -/

/-- An answer that holds an operation it may not hold is refused, wherever the operation stands (R200). -/
theorem applyOps_refused {ops : List Instr} (h : ∃ op ∈ ops, opPermitted op = false) (s : State) :
    ∃ r, applyOps s ops = .error r := by
  cases happly : applyOps s ops with
  | error r => exact ⟨r, rfl⟩
  | ok t =>
    obtain ⟨op, hmem, hnot⟩ := h
    have hlegal := List.all_eq_true.mp (applyOps_ok happly).2.legal op hmem
    rw [hnot, Bool.false_and] at hlegal
    exact absurd hlegal Bool.false_ne_true

/-- Settles O34: RESET by definition, in both forms, and its place in an answer by the operations an answer may hold. -/
theorem resetTransaction : Obligations.ResetTransaction := by
  unfold Obligations.ResetTransaction
  refine ⟨fun _ => rfl, fun _ => rfl, fun s before after => ?inAnswer⟩
  case inAnswer => exact applyOps_refused ⟨.reset, List.mem_append_right _ List.mem_cons_self, rfl⟩ s

/-! ### The identification payload (R196, R215) -/

/-- An answer sets a payload or leaves the one there is; it clears none (R196, R200). -/
theorem identAfter_ne_none {p : Option Payload} (hp : p ≠ none) (ops : List Instr) : identAfter p ops ≠ none := by
  induction ops generalizing p with
  | nil => exact hp
  | cons op rest ih =>
    cases op
    case setIdent q => exact ih (Option.some_ne_none q)
    all_goals exact ih hp

/-- From `s` to `t` no pending payload is cleared and no payload is handed over. -/
structure State.KeepsPayload (s t : State) : Prop where
  pending : s.identPending ≠ none → t.identPending ≠ none
  noneHandedOver : ∀ p, Event.identStart p ∈ t.events → Event.identStart p ∈ s.events

theorem State.KeepsPayload.of_eq {s t : State} (hpending : t.identPending = s.identPending)
    (hevents : t.events = s.events) : s.KeepsPayload t :=
  ⟨fun h => hpending ▸ h, fun _ h => hevents ▸ h⟩

theorem State.KeepsPayload.trans {s t u : State} (hst : s.KeepsPayload t) (htu : t.KeepsPayload u) : s.KeepsPayload u :=
  ⟨fun h => htu.pending (hst.pending h), fun p h => hst.noneHandedOver p (htu.noneHandedOver p h)⟩

/-- Raising an event other than `EV_IDENT_START`, with an answer to it or without. -/
theorem State.KeepsPayload.of_answer {s t : State} {e : Event} {ops : List Instr} (he : ∀ p, e ≠ .identStart p)
    (hpending : t.identPending = identAfter s.identPending ops) (hevents : t.events = s.events ++ [e]) :
    s.KeepsPayload t where
  pending h := hpending ▸ identAfter_ne_none h ops
  noneHandedOver p h := by
    rw [hevents, List.mem_append, List.mem_singleton] at h
    exact h.resolve_right (he p).symm

theorem State.collected_keepsPayload (s : State) (c : Collector) (cw : Codeword) : s.KeepsPayload (s.collected c cw) := by
  unfold State.collected
  split
  · split
    · exact .of_answer (ops := s.nextAnswer) (fun _ => Event.noConfusion) rfl rfl
    · exact .of_eq rfl rfl
  · exact .of_eq rfl rfl

theorem State.forward_keepsPayload {s t : State} {cw : Codeword} (h : s.forward cw = .ok t) : s.KeepsPayload t := by
  obtain ⟨-, rfl⟩ | ⟨_, -, -, rfl⟩ := State.forward_ok h
  · exact .of_eq rfl rfl
  · exact .of_answer (ops := s.nextAnswer) (fun _ => Event.noConfusion) rfl rfl

theorem execRxTick_keepsPayload {v : Nat} {s t : State} (h : execRxTick v s = .next t) : s.begin.KeepsPayload t := by
  obtain ⟨-, ⟨c, -, hc⟩ | ⟨-, hf⟩⟩ | ⟨-, rfl⟩ := execRxTick_next.mp h
  · obtain ⟨rfl, -⟩ := State.collect_ok hc
    exact s.begin.collected_keepsPayload c _
  · exact State.forward_keepsPayload hf
  · exact .of_eq rfl rfl

/-- Every instruction but RESET and the transmit tick keeps a pending payload and hands none over. -/
theorem exec_keepsPayload {i : Instr} {s t : State} (hreset : i ≠ .reset) (htick : i ≠ .txTick)
    (h : exec i s = .next t) : s.begin.KeepsPayload t := by
  cases i
  case reset => exact absurd rfl hreset
  case txTick => exact absurd rfl htick
  case rxTick => exact execRxTick_keepsPayload h
  case enqCC =>
    obtain ⟨-, -, rfl⟩ := State.pushCC_ok.mp (conclude_next.mp h)
    exact .of_eq rfl rfl
  case enqTC =>
    obtain ⟨-, -, rfl⟩ := State.pushTC_ok.mp (conclude_next.mp h)
    exact .of_eq rfl rfl
  case setIdent p =>
    obtain rfl := Host.Outcome.next.inj h
    exact ⟨fun _ => Option.some_ne_none p, fun _ => id⟩
  -- Every other instruction answers outright, with the payload as it was and no event.
  all_goals exact Host.Outcome.next.inj h ▸ .of_eq rfl rfl

/-! ### The transmit tick: only step 4 hands a payload over, and consumes it -/

theorem State.afterStep1_keepsPayload (s : State) : s.KeepsPayload s.afterStep1 := by
  unfold State.afterStep1
  split
  · exact .of_eq rfl rfl
  · exact .of_answer (ops := s.nextTxcAnswer.ops) (fun _ => Event.noConfusion) rfl rfl

theorem State.afterStep3_keepsPayload (s : State) : s.KeepsPayload s.afterStep3 := by
  unfold State.afterStep3
  split
  · exact .of_eq rfl rfl
  · split
    · split
      · exact .of_answer (ops := s.nextAnswer) (fun _ => Event.noConfusion) rfl rfl
      · exact .of_eq rfl rfl
    · exact .of_eq rfl rfl

theorem State.seenByStep4_keepsPayload (s : State) : s.begin.KeepsPayload s.seenByStep4 :=
  have hstep2 : s.begin.afterStep1.KeepsPayload s.begin.afterStep1.step2 := by
    rw [State.step2_eq]; exact .of_eq rfl rfl
  s.begin.afterStep1_keepsPayload.trans (hstep2.trans s.begin.afterStep1.step2.afterStep3_keepsPayload)

/-- In `t` a payload has been handed over and none is pending any more. -/
structure State.HandsPayloadOver (t : State) : Prop where
  consumed : t.identPending = none
  handed : ∃ p, Event.identStart p ∈ t.events

/-- Steps 4 and 5 hand the payload over, in state 0, or keep it (R215 to R222, R252). -/
theorem State.step4_close_payload (s : State) :
    (s.state = .beginFrame ∧ s.step4.close.HandsPayloadOver) ∨ s.KeepsPayload s.step4.close := by
  rcases s.step4_close_cases with
    ⟨p, hs, -, -, hc⟩ | ⟨-, -, hc⟩ | ⟨-, -, hc⟩ | ⟨_, _, -, -, -, hc⟩ | ⟨-, -, -, hc⟩ | ⟨-, -, hc⟩ | ⟨-, -, hc⟩ |
    ⟨_, _, -, -, hc⟩ | ⟨-, -, hc⟩ | ⟨-, hc⟩ <;> rw [hc]
  -- State 0 with a payload at the frame boundary (R215).
  case inl => exact .inl ⟨hs, rfl, p, List.mem_append_right _ (List.mem_singleton_self _)⟩
  -- The fault TQ_UNDERFLOW raises an event, but not this one (R219).
  case inr.inr.inr.inr.inr.inr.inr.inr.inl =>
    exact .inr (.of_answer (ops := []) (fun _ => Event.noConfusion) rfl rfl)
  -- The other eight rows of the dispatch leave the payload and the events alone.
  all_goals exact .inr (.of_eq rfl rfl)

/-- What a transmit tick can do to the payload: hand it over, in state 0, or keep it. -/
theorem execTxTick_payload {s t : State} (h : execTxTick s = .next t) :
    (dispatchState s = .beginFrame ∧ t.HandsPayloadOver) ∨ s.begin.KeepsPayload t := by
  obtain ⟨-, htick⟩ | ⟨-, rfl⟩ := execTxTick_next.mp h
  · have ht : t = s.seenByStep4.step4.close := (State.tick_ok htick).1
    rw [ht, ← State.seenByStep4_state]
    exact s.seenByStep4.step4_close_payload.imp_right s.seenByStep4_keepsPayload.trans
  · exact .inr (.of_eq rfl rfl)

/-- What an instruction can do to the payload: RESET clears it, a transmit tick may hand it over, and everything else keeps
it. -/
theorem exec_payload {i : Instr} {s t : State} (h : exec i s = .next t) :
    (i = .reset ∧ t = s.begin.resetRegisters) ∨
    (i = .txTick ∧ dispatchState s = .beginFrame ∧ t.HandsPayloadOver) ∨
    s.begin.KeepsPayload t := by
  by_cases hreset : i = .reset
  · subst hreset
    exact .inl ⟨rfl, (Host.Outcome.next.inj h).symm⟩
  by_cases htick : i = .txTick
  · subst htick
    exact .inr ((execTxTick_payload h).imp_left fun hover => ⟨rfl, hover⟩)
  exact .inr (.inr (exec_keepsPayload hreset htick h))

/-- Settles O27: the four transactions by definition, the payload by what an instruction can do to it. -/
theorem lifecycleTransactions : Obligations.LifecycleTransactions := by
  unfold Obligations.LifecycleTransactions
  refine ⟨fun _ => ⟨rfl, rfl, fun _ => rfl, rfl⟩, fun i s t hpending h hcleared => ?cleared,
    fun i s t p h hstart => ?consumed⟩
  case cleared =>
    obtain ⟨rfl, -⟩ | ⟨rfl, hdispatch, hover⟩ | hkeeps := exec_payload h
    · exact .inl rfl
    · exact .inr ⟨rfl, hdispatch, hover.handed⟩
    · exact absurd hcleared (hkeeps.pending hpending)
  case consumed =>
    obtain ⟨-, rfl⟩ | ⟨-, -, hover⟩ | hkeeps := exec_payload h
    · exact s.begin.resetRegisters_identPending
    · exact hover.consumed
    · exact absurd (hkeeps.noneHandedOver p hstart) (List.not_mem_nil)

end Sys2Proof.Machine
end

section
/-! PROOF. Step 4 of the transmit tick: one equation per row of the dispatch (R215 to R222, R252), and the tick of a block
with nothing pending, staged or outstanding, which is its row. -/

namespace Sys2Proof.Machine

open Sys2Proof.Spec

/-! ### Steps 4 and 5 by row: the conditions of the rows exclude each other, so a state that meets one is in that row -/

section Rows

variable {s : State}

/-- State 0 at the frame boundary, with a payload to hand over (R215). -/
theorem State.step4_close_handOver {p : Payload} (hs : s.state = .beginFrame) (hp : s.identPending = some p)
    (haf : s.af = 0) : s.step4.close =
      { s with identPending := none, state := .identInProgress, lastTx := .none, result := .slot .none,
               events := s.events ++ [.identStart p] } := by
  simpa [hs, hp, haf] using s.step4_close_cases

/-- State 0 otherwise (R215). -/
theorem State.step4_close_ccsc (hs : s.state = .beginFrame) (hno : s.identPending = none ∨ s.af ≠ 0) : s.step4.close =
      { s with state := .controlCodeword, lastTx := .cw (syncCW s.cfg.syscode .ccsc),
               result := .slot (.cw (syncCW s.cfg.syscode .ccsc)) } := by
  obtain hp | haf := hno
  · simpa [hs, hp] using s.step4_close_cases
  · simpa [hs, haf] using s.step4_close_cases

/-- State 1 (a), the reservation active after its decrement (R216). -/
theorem State.step4_close_filler (hs : s.state = .controlCodeword) (hrsv : 2 ≤ s.rsv) : s.step4.close =
      { s with state := .beginFrame, af := s.alohaStep.1, rsv := s.rsv - 1, lastTx := .cw s.cfg.fillerCw,
               result := .slot (.cw s.cfg.fillerCw) } := by
  have hactive : ¬ s.rsv ≤ 1 := by omega
  simpa [hs, hrsv, hactive] using s.step4_close_cases

/-- State 1 (b), a queued item (R216). -/
theorem State.step4_close_controlItem {it : TxItem} {rest : List TxItem} (hs : s.state = .controlCodeword)
    (hrsv : s.rsv ≤ 1) (hq : s.ccq = it :: rest) : s.step4.close =
      { withCompletionsOf it { s with state := .beginFrame, af := s.alohaStep.1, rsv := 0, ccq := rest } with
        lastTx := .cw it.cw, result := .slot (.cw it.cw) } := by
  have hactive : ¬ 2 ≤ s.rsv := by omega
  simpa [hs, hrsv, hactive, hq] using s.step4_close_cases

/-- State 1 (c), the idle invitation (R216). -/
theorem State.step4_close_idle (hs : s.state = .controlCodeword) (hrsv : s.rsv ≤ 1) (hq : s.ccq = []) : s.step4.close =
      { s with state := .beginFrame, af := s.alohaStep.1, rsv := 0, lastTx := .cw (idleAlh s.cfg s.alohaStep.2.val),
               result := .slot (.cw (idleAlh s.cfg s.alohaStep.2.val)) } := by
  have hactive : ¬ 2 ≤ s.rsv := by omega
  simpa [hs, hrsv, hactive, hq] using s.step4_close_cases

/-- State 2 with traffic queued (R218). -/
theorem State.step4_close_marker (hs : s.state = .trafficQuiescent) (hq : s.tcq ≠ []) : s.step4.close =
      { s with state := .trafficCodeword, af := 0, lastTx := .mark, result := .slot .mark } := by
  simpa [hs, hq] using s.step4_close_cases

/-- State 2 without traffic (R218). -/
theorem State.step4_close_silence (hs : s.state = .trafficQuiescent) (hq : s.tcq = []) : s.step4.close =
      { s with af := 0, lastTx := .none, result := .slot .none } := by
  simpa [hs, hq] using s.step4_close_cases

/-- State 3 with traffic queued (R219). -/
theorem State.step4_close_trafficItem {it : TxItem} {rest : List TxItem} (hs : s.state = .trafficCodeword)
    (hq : s.tcq = it :: rest) : s.step4.close =
      { withCompletionsOf it { s with state := .trafficQuiescent, tcq := rest } with
        lastTx := .cw it.cw, result := .slot (.cw it.cw) } := by
  simpa [hs, hq] using s.step4_close_cases

/-- State 3 without traffic, the fault (R219, R252). -/
theorem State.step4_close_underflow (hs : s.state = .trafficCodeword) (hq : s.tcq = []) : s.step4.close =
      { s with state := .trafficQuiescent, result := .slot .none, events := s.events ++ [.fault .tx tqUnderflow] } := by
  simpa [hs, hq] using s.step4_close_cases

/-- State 4 (R220). -/
theorem State.step4_close_waits (hs : s.state = .identInProgress) :
    s.step4.close = { s with lastTx := .none, result := .slot .none } := by
  simpa [hs] using s.step4_close_cases

end Rows

/-! ### The tick of a quiet block: step 4 of the state as it is -/

theorem State.step1_of_none {s : State} (h : s.txcPending = none) : s.step1 = .ok s := by rw [State.step1, h]

theorem State.step2_of_none {s : State} (h : s.rxcNext = none) : s.step2 = s := by rw [State.step2, h]

theorem State.step3_of_none {s : State} (h : s.rxc = none) : s.step3 = .ok s := by rw [State.step3, h]

theorem State.step3_of_counting {s : State} {c : Collector} (h : s.rxc = some c) (hc : 2 ≤ c.countdown) :
    s.step3 = .ok { s with rxc := some { c with countdown := c.countdown - 1 } } := by
  have hleft : c.countdown - 1 ≠ 0 := by omega
  simp only [State.step3, h, if_neg hleft]

theorem State.step3_of_silent {s : State} {c : Collector} (h : s.rxc = some c) (hc : c.countdown ≤ 1)
    (hen : c.en = false) : s.step3 = .ok { s with rxc := none } := by
  have hzero : c.countdown - 1 = 0 := by omega
  simp only [State.step3, h, if_pos hzero, State.timeOut, hen, Bool.false_eq_true, if_false]

theorem State.step3_of_timeout {s : State} {c : Collector} (h : s.rxc = some c) (hc : c.countdown ≤ 1)
    (hen : c.en = true) : s.step3 = { s with rxc := none }.call (.rxc c.tag .timeout []) := by
  have hzero : c.countdown - 1 = 0 := by omega
  simp only [State.step3, h, if_pos hzero, State.timeOut, hen, if_true]

/-- Where nothing is pending or staged the tick is step 3, then steps 4 and 5. -/
theorem State.tick_of_step3 {s u : State} (hpending : s.txcPending = none) (hstaged : s.rxcNext = none)
    (h : s.step3 = .ok u) : s.tick = .ok u.step4.close := by
  simp only [State.tick, State.step1_of_none hpending, State.step2_of_none hstaged, h]

/-- TX_TICK of a running block is the ungated tick (R211). -/
theorem exec_txTick_of_running {s : State} (h : s.running = true) : exec .txTick s = conclude s.begin.tick := by
  change execTxTick s = _
  rw [execTxTick, if_pos h]

theorem exec_txTick_of_quiet {s : State} (h : s.Quiet) : exec .txTick s = .next s.begin.step4.close := by
  have hstep3 : s.begin.step3 = .ok s.begin := State.step3_of_none h.rxc
  rw [exec_txTick_of_running h.running, State.tick_of_step3 (s := s.begin) h.txcPending h.rxcNext hstep3, conclude]

/-- Settles O41: the two rows of state 0, and what the FCS of a synchronisation codeword is. -/
theorem stateZeroBeginsTheFrame : Obligations.StateZeroBeginsTheFrame := by
  unfold Obligations.StateZeroBeginsTheFrame
  intro s hquiet hs
  rw [exec_txTick_of_quiet hquiet]
  refine ⟨fun p hp haf => ?handOver, fun hno => ⟨_, rfl, fcs_syncCW _ .ccsc, ?ccsc⟩⟩
  case handOver => exact congrArg _ (State.step4_close_handOver (s := s.begin) hs hp haf)
  case ccsc => exact congrArg _ (State.step4_close_ccsc (s := s.begin) hs hno)

/-- The idle invitation as a packing expression (R77, R114). -/
theorem idleAlh_toNat (c : Config) (n : Nat) : (idleAlh c n).toNat =
    alhFam c.alhFunc.toNat c.alhPfix.toNat c.alhIdent1.toNat c.chan.toNat c.alhWt.toNat c.alhRsvd.toNat c.alhM.toNat n := by
  have hfunc : mask 3 c.alhFunc.toNat = c.alhFunc.toNat := Nat.mod_eq_of_lt c.alhFunc.isLt
  rw [idleAlh, alhWord_toNat_or, hfunc]

/-- Settles O42: the three rows of state 1. -/
theorem stateOneFollowsThePrecedence : Obligations.StateOneFollowsThePrecedence := by
  unfold Obligations.StateOneFollowsThePrecedence
  intro s hquiet hs
  rw [exec_txTick_of_quiet hquiet]
  refine ⟨fun hrsv => ?filler, fun it rest hrsv hq => ?item, fun hrsv hq => ⟨_, idleAlh_toNat s.cfg _, ?idle⟩⟩
  case filler => exact congrArg _ (State.step4_close_filler (s := s.begin) hs hrsv)
  case item => exact congrArg _ (State.step4_close_controlItem (s := s.begin) hs hrsv hq)
  case idle => exact congrArg _ (State.step4_close_idle (s := s.begin) hs hrsv hq)

/-- Settles O44: the two rows of state 2. -/
theorem stateTwoMarksOrStaysSilent : Obligations.StateTwoMarksOrStaysSilent := by
  unfold Obligations.StateTwoMarksOrStaysSilent
  intro s hquiet hs
  rw [exec_txTick_of_quiet hquiet]
  refine ⟨fun hq => ?marker, fun hq => ?silence⟩
  case marker => exact congrArg _ (State.step4_close_marker (s := s.begin) hs hq)
  case silence => exact congrArg _ (State.step4_close_silence (s := s.begin) hs hq)

/-- Settles O45: the two rows of state 3. -/
theorem stateThreeSendsTrafficOrFaults : Obligations.StateThreeSendsTrafficOrFaults := by
  unfold Obligations.StateThreeSendsTrafficOrFaults
  intro s hquiet hs
  rw [exec_txTick_of_quiet hquiet]
  refine ⟨fun it rest hq => ?item, fun hq => ?underflow⟩
  case item => exact congrArg _ (State.step4_close_trafficItem (s := s.begin) hs hq)
  case underflow => exact congrArg _ (State.step4_close_underflow (s := s.begin) hs hq)

end Sys2Proof.Machine
end

section
/-! PROOF. What the transmit tick does not read: the events raised so far (R255), and in steps 4 and 5 the outstanding
collector. So the tick of a state that an earlier step left is that of the state with no event, the events put in front. -/

namespace Sys2Proof.Machine

/-- The state with the events `es` raised before its own. -/
def State.precededBy (s : State) (es : List Event) : State := { s with events := es ++ s.events }

theorem State.emit_precededBy (s : State) (es : List Event) (e : Event) :
    (s.precededBy es).emit e = (s.emit e).precededBy es := by
  simp only [State.emit, State.precededBy, List.append_assoc]

theorem State.pushCC_precededBy (s : State) (es : List Event) (it : ItemOperand) :
    (s.precededBy es).pushCC it = (s.pushCC it).map (·.precededBy es) := by
  rw [State.pushCC, State.pushCC, State.precededBy]
  cases accept s.cfg s.ccq it <;> rfl

theorem State.pushTC_precededBy (s : State) (es : List Event) (it : ItemOperand) :
    (s.precededBy es).pushTC it = (s.pushTC it).map (·.precededBy es) := by
  rw [State.pushTC, State.pushTC, State.precededBy]
  cases accept s.cfg s.tcq it <;> rfl

theorem applyOp_precededBy (s : State) (es : List Event) (op : Instr) :
    applyOp (s.precededBy es) op = (applyOp s op).map (·.precededBy es) := by
  cases op
  case enqCC it => exact s.pushCC_precededBy es it
  case enqTC it => exact s.pushTC_precededBy es it
  -- A payload is set without a look at the events, and every other operation is refused.
  all_goals rfl

theorem applyOps_precededBy (s : State) (es : List Event) (ops : List Instr) :
    applyOps (s.precededBy es) ops = (applyOps s ops).map (·.precededBy es) := by
  induction ops generalizing s with
  | nil => rfl
  | cons op rest ih =>
    rw [applyOps, applyOps, applyOp_precededBy]
    cases applyOp s op with
    | error r => rfl
    | ok s' => exact ih s'

theorem State.call_precededBy (s : State) (es : List Event) (e : Event) :
    (s.precededBy es).call e = (s.call e).map (·.precededBy es) := by
  rw [State.call, State.emit_precededBy]
  exact applyOps_precededBy { s.emit e with answers := s.answers.tail } es s.nextAnswer

theorem State.step3_precededBy (s : State) (es : List Event) :
    (s.precededBy es).step3 = s.step3.map (·.precededBy es) := by
  cases h : s.rxc with
  | none =>
    rw [State.step3_of_none h, State.step3_of_none (s := s.precededBy es) h]
    rfl
  | some c =>
    obtain hc | hc : 2 ≤ c.countdown ∨ c.countdown ≤ 1 := by omega
    · rw [State.step3_of_counting h hc, State.step3_of_counting (s := s.precededBy es) h hc]
      rfl
    · cases hen : c.en with
      | false =>
        rw [State.step3_of_silent h hc hen, State.step3_of_silent (s := s.precededBy es) h hc hen]
        rfl
      | true =>
        rw [State.step3_of_timeout h hc hen, State.step3_of_timeout (s := s.precededBy es) h hc hen]
        exact State.call_precededBy { s with rxc := none } es _

/-- Steps 4 and 5 neither read nor write the outstanding collector, and only append to the events. -/
theorem State.step4_close_frame (s : State) (k : Option Collector) (es : List Event) :
    ({ s with rxc := k }.precededBy es).step4.close = { s.step4.close with rxc := k }.precededBy es := by
  rcases s.step4_close_cases with
    ⟨p, hs, hp, haf, hc⟩ | ⟨hs, hno, hc⟩ | ⟨hs, hrsv, hc⟩ | ⟨it, rest, hs, hrsv, hq, hc⟩ | ⟨hs, hrsv, hq, hc⟩ |
    ⟨hs, hq, hc⟩ | ⟨hs, hq, hc⟩ | ⟨it, rest, hs, hq, hc⟩ | ⟨hs, hq, hc⟩ | ⟨hs, hc⟩ <;> rw [hc]
  -- The rows that raise an event append it to the earlier ones.
  case inl =>
    rw [State.step4_close_handOver (s := State.precededBy { s with rxc := k } es) hs hp haf]
    simp only [State.precededBy, List.append_assoc]
  case inr.inr.inr.inr.inr.inr.inr.inr.inl =>
    rw [State.step4_close_underflow (s := State.precededBy { s with rxc := k } es) hs hq]
    simp only [State.precededBy, List.append_assoc]
  · exact State.step4_close_ccsc hs hno
  · exact State.step4_close_filler hs hrsv
  · exact State.step4_close_controlItem hs hrsv hq
  · exact State.step4_close_idle hs hrsv hq
  · exact State.step4_close_marker hs hq
  · exact State.step4_close_silence hs hq
  · exact State.step4_close_trafficItem hs hq
  · exact State.step4_close_waits hs

theorem State.step4_close_withRxc (s : State) (k : Option Collector) :
    { s with rxc := k }.step4.close = { s.step4.close with rxc := k } := s.step4_close_frame k []

theorem State.step4_close_precededBy (s : State) (es : List Event) :
    (s.precededBy es).step4.close = s.step4.close.precededBy es := by
  have hsame : s.step4.close = { s.step4.close with rxc := s.rxc } := s.step4_close_withRxc s.rxc
  exact (s.step4_close_frame s.rxc es).trans (congrArg (·.precededBy es) hsame.symm)

/-- The tick from step 2 on carries the events raised before it along (R210, R255). -/
theorem State.tick_precededBy {s : State} (hpending : s.txcPending = none) (es : List Event) :
    (s.precededBy es).tick = s.tick.map (·.precededBy es) := by
  have hstep2 : (s.precededBy es).step2 = s.step2.precededBy es := by
    rw [State.step2_eq, State.step2_eq]; rfl
  simp only [State.tick, State.step1_of_none hpending, State.step1_of_none (s := s.precededBy es) hpending, hstep2,
    State.step3_precededBy]
  cases s.step2.step3 with
  | error r => rfl
  | ok u => exact congrArg Except.ok (u.step4_close_precededBy es)

/-- Where an earlier step raised `es` and left `u`, the tick is that of `u` with `es` before its events. -/
theorem exec_txTick_precededBy {s u : State} {es : List Event} (hrun : s.running = true) (htick : s.begin.tick = u.tick)
    (hrunU : u.running = true) (hpending : u.txcPending = none) (hresult : u.result = .nothing) (hevents : u.events = es) :
    exec .txTick s = withEarlierEvents es (exec .txTick u) := by
  have hu : u = u.begin.precededBy es := by
    simp only [State.precededBy, State.begin, List.append_nil, ← hresult, ← hevents]
  have hraised : u.tick = u.begin.tick.map (·.precededBy es) :=
    (congrArg State.tick hu).trans (State.tick_precededBy (s := u.begin) hpending es)
  rw [exec_txTick_of_running hrun, exec_txTick_of_running hrunU, htick, hraised]
  cases u.begin.tick <;> rfl

end Sys2Proof.Machine
end

section
/-! PROOF. Steps 1 to 3 of the transmit tick (R212 to R214): each is done once, and the rest of the tick is the tick of
the state it leaves. -/

namespace Sys2Proof.Machine

/-! ### Step 1: the transmit-completion (R212) -/

theorem SeqState.ofCode_code (st : SeqState) : SeqState.ofCode st.code = some st := by cases st <;> rfl

theorem SeqState.ofCode_of_out_of_range {b : BitVec 3} (h : 5 ≤ b.toNat) : SeqState.ofCode b = none := by
  rw [SeqState.ofCode]
  split
  case h_6 => rfl
  all_goals omega

theorem State.callTxc_of_applied {s s1 : State} {tag : Tag}
    (happly : applyOps { s.emit (.txc tag) with txcAnswers := s.txcAnswers.tail } s.nextTxcAnswer.ops = .ok s1) :
    s.callTxc tag = s1.override s.nextTxcAnswer.newState := by
  rw [State.callTxc, happly]

/-- Step 1 whose answer's operations leave `s1` is the override of `s1`. -/
theorem State.step1_of_applied {s s1 : State} {tag : Tag} (hpending : s.txcPending = some tag)
    (happly : applyOps { s with txcPending := none, txcAnswers := s.txcAnswers.tail, events := s.events ++ [.txc tag] }
      s.nextTxcAnswer.ops = .ok s1) : s.step1 = s1.override s.nextTxcAnswer.newState := by
  rw [State.step1, hpending]
  exact State.callTxc_of_applied (s := { s with txcPending := none }) happly

/-- Step 1 leaves nothing for step 1 of the state it reaches. -/
theorem State.tick_of_step1 {s u : State} (h : s.step1 = .ok u) (hpending : u.txcPending = none) : s.tick = u.tick := by
  simp only [State.tick, h, State.step1_of_none hpending]

theorem State.tick_of_step1_error {s : State} {r : Refusal} (h : s.step1 = .error r) : s.tick = .error r := by
  simp only [State.tick, h]

/-- Settles O38: step 1 by its override, then the tick of the state it reaches. -/
theorem stepOneInvokesTheCompletion : Obligations.StepOneInvokesTheCompletion := by
  unfold Obligations.StepOneInvokesTheCompletion
  rintro s s1 t a hrun hpending rfl happly
  have hstep1 : s.begin.step1 = s1.override s.nextTxcAnswer.newState :=
    State.step1_of_applied (s := s.begin) hpending happly
  obtain ⟨rfl, -⟩ := applyOps_ok happly
  refine ⟨fun hnone => ?stays, fun st hst => ?overridden, fun b hb hrange => ?refused⟩
  case stays =>
    have hreached := hstep1.trans (congrArg _ hnone)
    exact exec_txTick_precededBy hrun (State.tick_of_step1 hreached rfl) hrun rfl rfl rfl
  case overridden =>
    have hreached := hstep1.trans (congrArg _ hst)
    rw [State.override, SeqState.ofCode_code] at hreached
    exact exec_txTick_precededBy hrun (State.tick_of_step1 hreached rfl) hrun rfl rfl rfl
  case refused =>
    have hreached := hstep1.trans (congrArg _ hb)
    rw [State.override, SeqState.ofCode_of_out_of_range hrange] at hreached
    rw [exec_txTick_of_running hrun, State.tick_of_step1_error hreached, conclude]

/-! ### Step 2: arming (R213) -/

theorem State.tick_of_step2 {s u : State} (hpending : s.txcPending = none) (hpendingU : u.txcPending = none)
    (h : s.step2 = u.step2) : s.tick = u.tick := by
  simp only [State.tick, State.step1_of_none hpending, State.step1_of_none hpendingU, h]

/-- Settles O39: step 2 has nothing left to do where the staged collector is the outstanding one. -/
theorem stepTwoArmsTheReservation : Obligations.StepTwoArmsTheReservation := by
  unfold Obligations.StepTwoArmsTheReservation
  intro s c hrun hpending hstaged
  have hstep2 : s.begin.step2 = { s with rxc := some c, rxcNext := none }.begin.step2 := by
    rw [State.step2_eq, State.step2_eq, State.begin_rxcNext, hstaged]
    rfl
  rw [exec_txTick_of_running hrun, exec_txTick_of_running (s := { s with rxc := some c, rxcNext := none }) hrun]
  exact congrArg conclude (State.tick_of_step2 hpending hpending hstep2)

/-! ### Step 3: countdown and timeout (R214) -/

/-- Step 3 that clears the slot leaves nothing for steps 1 to 3 of the state it reaches. -/
theorem State.tick_of_cleared {s u : State} (hpending : s.txcPending = none) (hstaged : s.rxcNext = none)
    (h : s.step3 = .ok u) (hpendingU : u.txcPending = none) (hstagedU : u.rxcNext = none) (hrxc : u.rxc = none) :
    s.tick = u.tick :=
  (State.tick_of_step3 hpending hstaged h).trans
    (State.tick_of_step3 hpendingU hstagedU (State.step3_of_none hrxc)).symm

/-- Settles O40: step 3 by the three cases of the countdown, then the tick of the state it reaches. -/
theorem stepThreeDrivesTheTimeout : Obligations.StepThreeDrivesTheTimeout := by
  unfold Obligations.StepThreeDrivesTheTimeout
  intro s c hrun hpending hstaged hrxc
  refine ⟨fun hcount => ?counting, fun hlast hen => ?silent, fun hlast hen s1 happly => ?timeout⟩
  case counting =>
    have hquiet : { s with rxc := none }.Quiet := ⟨hrun, hpending, hstaged, rfl⟩
    refine ⟨_, exec_txTick_of_quiet hquiet, ?_⟩
    have hstep3 := State.step3_of_counting (s := s.begin) hrxc hcount
    rw [exec_txTick_of_running hrun, State.tick_of_step3 (s := s.begin) hpending hstaged hstep3, conclude]
    exact congrArg _ (State.step4_close_withRxc { s with rxc := none }.begin _)
  case silent =>
    have hstep3 := State.step3_of_silent (s := s.begin) hrxc hlast.le hen
    rw [exec_txTick_of_running hrun, exec_txTick_of_running (s := { s with rxc := none }) hrun,
      State.tick_of_cleared (s := s.begin) hpending hstaged hstep3 hpending hstaged rfl]
    rfl
  case timeout =>
    have hstep3 : s.begin.step3 = .ok s1 := (State.step3_of_timeout (s := s.begin) hrxc hlast.le hen).trans happly
    obtain ⟨rfl, -⟩ := applyOps_ok happly
    have htick := State.tick_of_cleared (s := s.begin) hpending hstaged hstep3 hpending hstaged rfl
    exact exec_txTick_precededBy hrun htick hrun hpending rfl rfl

end Sys2Proof.Machine
end

section
/-! PROOF. The collector path of the receive tick (R242): one equation for each end a received word can have. -/

namespace Sys2Proof.Machine

/-! ### RX_TICK of a running block (R240, R241) -/

theorem exec_rxTick_of_collector {s : State} {c : Collector} (hrun : s.running = true) (hrxc : s.rxc = some c)
    (v : Nat) : exec (.rxTick v) s = conclude (s.begin.collect c (mask48 v)) := by
  change execRxTick v s = _
  rw [execRxTick, if_pos hrun, State.receive, State.begin_rxc, hrxc]

theorem exec_rxTick_of_free {s : State} (hrun : s.running = true) (hrxc : s.rxc = none) (v : Nat) :
    exec (.rxTick v) s = conclude (s.begin.forward (mask48 v)) := by
  change execRxTick v s = _
  rw [execRxTick, if_pos hrun, State.receive, State.begin_rxc, hrxc]

/-! ### The collector path (R242) -/

theorem State.collect_of_more {c : Collector} (h : 2 ≤ c.remaining) (s : State) (cw : Codeword) :
    s.collect c cw = .ok { s with
      rxc := some { c with acc := c.acc ++ [cw], countdown := rxcTimeout, remaining := c.remaining - 1 } } := by
  have hleft : c.remaining - 1 ≠ 0 := by omega
  simp only [State.collect, if_neg hleft]

theorem State.collect_of_last_silent {c : Collector} (h : c.remaining = 1) (hen : c.en = false) (s : State)
    (cw : Codeword) : s.collect c cw = .ok { s with rxc := none } := by
  simp only [State.collect, h, Nat.sub_self, if_true, hen, Bool.false_eq_true, if_false]

theorem State.collect_of_last {c : Collector} (h : c.remaining = 1) (hen : c.en = true) (s : State) (cw : Codeword) :
    s.collect c cw = { s with rxc := none }.call (.rxc c.tag .success (c.acc ++ [cw])) := by
  simp only [State.collect, h, Nat.sub_self, if_true, hen]

/-- Settles O48: the three cases of the remaining count and the continuation. -/
theorem receiveFeedsTheCollector : Obligations.ReceiveFeedsTheCollector := by
  unfold Obligations.ReceiveFeedsTheCollector
  intro s c v hrun hrxc
  rw [exec_rxTick_of_collector hrun hrxc]
  refine ⟨fun hmore => ?more, fun hlast hen => ?silent, fun hlast hen t happly => ?delivered⟩
  case more => exact conclude_next.mpr (State.collect_of_more hmore s.begin _)
  case silent => exact conclude_next.mpr (State.collect_of_last_silent hlast hen s.begin _)
  case delivered => exact conclude_next.mpr ((State.collect_of_last hlast hen s.begin _).trans happly)

end Sys2Proof.Machine
end

section
/-! PROOF. The codec both ways on what a radio unit sends (R160 to R173): `decode` reads off the fields `encode` has
put, and a word that decodes is the word of the variant it decodes to. -/

namespace Sys2Proof.Machine

/-! ### The two formats `decode` accepts (R63, R66) -/

/-- The fixed bits of format ADDR, whose `CAT` is 0. -/
structure IsAddr (x : Codeword) : Prop where
  top : slice x 47 47 = 1
  control : slice x 26 26 = 1
  cat : slice x 25 23 = 0

/-- The fixed bits of format SAM with descriptor 0. -/
structure IsSam (x : Codeword) : Prop where
  top : slice x 47 47 = 1
  control : slice x 26 26 = 1
  cat : slice x 25 23 = 1
  desc : slice x 22 20 = 0

theorem addrWord_isAddr (pfix ident1 type func : Nat) (p : BitVec 18) : IsAddr (addrWord pfix ident1 type func p) := by
  have hpfix := mask_lt 7 pfix
  have hident1 := mask_lt 13 ident1
  have htype := mask_lt 2 type
  have hfunc := mask_lt 3 func
  constructor <;> (rw [slice, addrWord_toNat]; omega)

theorem samisWord_isSam (p1 p2 : Nat) : IsSam (samisWord p1 p2) := by
  have hp1 := mask_lt 20 p1
  have hp2 := mask_lt 20 p2
  constructor <;> (rw [slice, samisWord_toNat]; omega)

theorem decode_of_isAddr {x : Codeword} (h : IsAddr x) : decode x = decodeCat0 x := by
  simp only [decode, h.top, h.control, h.cat, one_ne_zero, if_false]

theorem decode_of_isSam {x : Codeword} (h : IsSam x) : decode x = some (decodeSamis x) := by
  simp only [decode, h.top, h.control, h.cat, h.desc, one_ne_zero, if_false, if_true]

/-- Everything `decode` can answer. -/
theorem decode_eq_some {x : Codeword} {d : Variant} (h : decode x = some d) :
    (IsAddr x ∧ decodeCat0 x = some d) ∨ (IsSam x ∧ d = decodeSamis x) := by
  have htop := slice_lt x 47 47
  have hcontrol := slice_lt x 26 26
  unfold decode at h
  split at h
  · cases h
  split at h
  · cases h
  split at h
  case h_1 hcat => exact .inl ⟨⟨by omega, by omega, hcat⟩, h⟩
  case h_2 hcat =>
    split at h
    case isTrue hdesc => exact .inr ⟨⟨by omega, by omega, hcat, hdesc⟩, (Option.some.inj h).symm⟩
    case isFalse => cases h
  case h_3 => cases h

/-! ### The fields of an addressed word (R63) -/

section Addr

variable (pfix ident1 type func : Nat) (p : BitVec 18)

@[simp] theorem slice_addrWord_pfix : slice (addrWord pfix ident1 type func p) 46 40 = mask 7 pfix := by
  have hpfix := mask_lt 7 pfix
  have hident1 := mask_lt 13 ident1
  have htype := mask_lt 2 type
  have hfunc := mask_lt 3 func
  rw [slice, addrWord_toNat]; omega

@[simp] theorem slice_addrWord_ident1 : slice (addrWord pfix ident1 type func p) 39 27 = mask 13 ident1 := by
  have hident1 := mask_lt 13 ident1
  have htype := mask_lt 2 type
  have hfunc := mask_lt 3 func
  rw [slice, addrWord_toNat]; omega

@[simp] theorem slice_addrWord_type : slice (addrWord pfix ident1 type func p) 22 21 = mask 2 type := by
  have htype := mask_lt 2 type
  have hfunc := mask_lt 3 func
  rw [slice, addrWord_toNat]; omega

@[simp] theorem slice_addrWord_func : slice (addrWord pfix ident1 type func p) 20 18 = mask 3 func := by
  have hfunc := mask_lt 3 func
  rw [slice, addrWord_toNat]; omega

/-- A slice below bit 18 is one of the parameter field. -/
theorem slice_addrWord_param {hi lo : Nat} (hhi : hi < 18) (hlo : lo ≤ hi) :
    slice (addrWord pfix ident1 type func p) hi lo = p.toNat / 2 ^ lo % 2 ^ (hi - lo + 1) := by
  rw [slice_eq_extract, addrWord, BitVec.extractLsb'_append_eq_of_add_le (by omega), BitVec.extractLsb'_toNat,
    Nat.shiftRight_eq_div_pow]

end Addr

/-! ### What stands below `IDENT2` (R67) -/

section Ident2

variable (pfix ident1 type func ident2 : Nat)

@[simp] theorem ident2Of_addrWord (low : BitVec 5) :
    ident2Of (addrWord pfix ident1 type func (ident2Param ident2 low)) = mask 13 ident2 := by
  have hident2 := mask_lt 13 ident2
  rw [ident2Of, slice_addrWord_param _ _ _ _ _ (by decide) (by decide), ident2Param_toNat]
  omega

/-- A slice below bit 5 is one of the five low bits. -/
theorem slice_addrWord_low (low : BitVec 5) {hi lo : Nat} (hhi : hi < 5) (hlo : lo ≤ hi) :
    slice (addrWord pfix ident1 type func (ident2Param ident2 low)) hi lo =
      low.toNat / 2 ^ lo % 2 ^ (hi - lo + 1) := by
  rw [slice_eq_extract, addrWord, ident2Param, BitVec.extractLsb'_append_eq_of_add_le (by omega),
    BitVec.extractLsb'_append_eq_of_add_le (by omega), BitVec.extractLsb'_toNat, Nat.shiftRight_eq_div_pow]

/-- The one field of RQX and RQQ. -/
@[simp] theorem slice_addrWord_field5 (v : Nat) :
    slice (addrWord pfix ident1 type func (ident2Param ident2 (field 5 v))) 4 0 = mask 5 v := by
  simp (disch := decide) only [slice_addrWord_low, field_toNat, mask]
  omega

/-- The five flags of RQS and RQE. -/
@[simp] theorem slice_addrWord_flags5 (b4 b3 b2 b1 b0 : Nat) :
    slice (addrWord pfix ident1 type func (ident2Param ident2 (flags5 b4 b3 b2 b1 b0))) 4 4 = mask 1 b4 ∧
    slice (addrWord pfix ident1 type func (ident2Param ident2 (flags5 b4 b3 b2 b1 b0))) 3 3 = mask 1 b3 ∧
    slice (addrWord pfix ident1 type func (ident2Param ident2 (flags5 b4 b3 b2 b1 b0))) 2 2 = mask 1 b2 ∧
    slice (addrWord pfix ident1 type func (ident2Param ident2 (flags5 b4 b3 b2 b1 b0))) 1 1 = mask 1 b1 ∧
    slice (addrWord pfix ident1 type func (ident2Param ident2 (flags5 b4 b3 b2 b1 b0))) 0 0 = mask 1 b0 := by
  simp (disch := decide) only [slice_addrWord_low, flags5_toNat, mask]
  and_intros <;> omega

/-- The fields of RQT and RQC: two bits and three flags. -/
@[simp] theorem slice_addrWord_twoAndFlags (a b c d : Nat) :
    slice (addrWord pfix ident1 type func (ident2Param ident2 (field 2 a ++ field 1 b ++ field 1 c ++ field 1 d))) 4 3 =
      mask 2 a ∧
    slice (addrWord pfix ident1 type func (ident2Param ident2 (field 2 a ++ field 1 b ++ field 1 c ++ field 1 d))) 2 2 =
      mask 1 b ∧
    slice (addrWord pfix ident1 type func (ident2Param ident2 (field 2 a ++ field 1 b ++ field 1 c ++ field 1 d))) 1 1 =
      mask 1 c ∧
    slice (addrWord pfix ident1 type func (ident2Param ident2 (field 2 a ++ field 1 b ++ field 1 c ++ field 1 d))) 0 0 =
      mask 1 d := by
  simp (disch := decide) only [slice_addrWord_low, append_toNat_add, field_toNat, mask]
  and_intros <;> omega

/-- The fields of the ACK family. -/
@[simp] theorem slice_addrWord_qualN (qual n : Nat) :
    slice (addrWord pfix ident1 type func (ident2Param ident2 (field 1 qual ++ field 4 n))) 4 4 = mask 1 qual ∧
    slice (addrWord pfix ident1 type func (ident2Param ident2 (field 1 qual ++ field 4 n))) 3 0 = mask 4 n := by
  simp (disch := decide) only [slice_addrWord_low, append_toNat_add, field_toNat, mask]
  and_intros <;> omega

end Ident2

/-! ### The parameter fields without an `IDENT2` (R67) -/

section Param

variable (pfix ident1 type func : Nat)

/-- The fields of RQR. -/
@[simp] theorem slice_addrWord_infoRsvd (info rsvd : Nat) :
    slice (addrWord pfix ident1 type func (field 15 info ++ field 3 rsvd)) 17 3 = mask 15 info ∧
    slice (addrWord pfix ident1 type func (field 15 info ++ field 3 rsvd)) 2 0 = mask 3 rsvd := by
  simp (disch := decide) only [slice_addrWord_param, append_toNat_add, field_toNat, mask]
  and_intros <;> omega

/-- The fields of MAINT. -/
@[simp] theorem slice_addrWord_maint (chan oper rsvd spare : Nat) :
    slice (addrWord pfix ident1 type func (field 10 chan ++ field 3 oper ++ field 2 rsvd ++ field 3 spare)) 17 8 =
      mask 10 chan ∧
    slice (addrWord pfix ident1 type func (field 10 chan ++ field 3 oper ++ field 2 rsvd ++ field 3 spare)) 7 5 =
      mask 3 oper ∧
    slice (addrWord pfix ident1 type func (field 10 chan ++ field 3 oper ++ field 2 rsvd ++ field 3 spare)) 4 3 =
      mask 2 rsvd ∧
    slice (addrWord pfix ident1 type func (field 10 chan ++ field 3 oper ++ field 2 rsvd ++ field 3 spare)) 2 0 =
      mask 3 spare := by
  simp (disch := decide) only [slice_addrWord_param, append_toNat_add, field_toNat, mask]
  and_intros <;> omega

end Param

/-! ### The fields of a SAM word (R66) -/

@[simp] theorem slice_samisWord (p1 p2 : Nat) :
    slice (samisWord p1 p2) 46 27 = mask 20 p1 ∧ slice (samisWord p1 p2) 19 0 = mask 20 p2 := by
  have hp1 := mask_lt 20 p1
  have hp2 := mask_lt 20 p2
  constructor <;> (rw [slice, samisWord_toNat]; omega)

/-! ### `decode` of `encode` (R173 b) -/

/-- A word of a variant receivable from a radio unit decodes to it, its fields masked. -/
theorem decode_encode {v : Variant} (hv : receivable v = true) : decode (encode v) = some (masked v) := by
  cases v
  case ackFam =>
    rw [encode, ackWord, decode_of_isAddr (addrWord_isAddr ..), decodeCat0]
    simp [decodeAck, masked, mask]
  case rqs | rqx | rqt | rqe | rqq | rqc =>
    rw [encode, type2Word, decode_of_isAddr (addrWord_isAddr ..), decodeCat0]
    simp [decodeType2, masked, mask]
  case rqr =>
    rw [encode, decode_of_isAddr (addrWord_isAddr ..), decodeCat0]
    simp [decodeType2, masked, mask]
  case maint =>
    rw [encode, decode_of_isAddr (addrWord_isAddr ..), decodeCat0]
    simp [decodeMaint, masked, mask]
  case samis =>
    rw [encode, decode_of_isSam (samisWord_isSam ..)]
    simp [decodeSamis, masked]
  all_goals exact absurd hv Bool.false_ne_true

/-- A variant whose fields are in range is not changed by their masks. -/
theorem masked_of_wf {v : Variant} (hv : v.wf = true) : masked v = v := by
  cases v
  all_goals
    simp only [Variant.wf, Bool.and_eq_true] at hv
    simp only [masked, mask_of_fits, hv]

/-! ### `encode` of `decode` (R173 a) -/

/-- A field filled from a slice of its width is the bits of the slice (R7). -/
theorem field_slice {w hi lo : Nat} (hw : hi - lo + 1 = w) (x : Codeword) :
    field w (slice x hi lo) = x.extractLsb' lo w := by
  subst hw
  apply BitVec.eq_of_toNat_eq
  rw [field_toNat, slice_eq_extract, mask, BitVec.toNat_mod_cancel]

/-- A word of format ADDR is the addressed word of its header fields and its low 18 bits. -/
theorem addrWord_of_isAddr {x : Codeword} {type func : Nat} {p : BitVec 18} (h : IsAddr x)
    (htype : slice x 22 21 = type) (hfunc : slice x 20 18 = func) (hp : p = x.extractLsb' 0 18) :
    addrWord (slice x 46 40) (slice x 39 27) type func p = x := by
  have htop : 1#1 = field 1 (slice x 47 47) := congrArg (field 1) h.top.symm
  have hcontrol : 1#1 = field 1 (slice x 26 26) := congrArg (field 1) h.control.symm
  have hcat : 0#3 = field 3 (slice x 25 23) := congrArg (field 3) h.cat.symm
  subst htype hfunc hp
  calc
    addrWord (slice x 46 40) (slice x 39 27) (slice x 22 21) (slice x 20 18) (x.extractLsb' 0 18) =
        field 1 (slice x 47 47) ++ field 7 (slice x 46 40) ++ field 13 (slice x 39 27) ++ field 1 (slice x 26 26) ++
          field 3 (slice x 25 23) ++ field 2 (slice x 22 21) ++ field 3 (slice x 20 18) ++ x.extractLsb' 0 18 := by
      rw [← htop, ← hcontrol, ← hcat, addrWord]
    _ = x.extractLsb' 0 48 := by
      simp (disch := rfl) only [field_slice, BitVec.extractLsb'_append_extractLsb'_eq_extractLsb']
    _ = x := BitVec.extractLsb'_eq_self

theorem samisWord_of_isSam {x : Codeword} (h : IsSam x) : samisWord (slice x 46 27) (slice x 19 0) = x := by
  have htop : 1#1 = field 1 (slice x 47 47) := congrArg (field 1) h.top.symm
  have hcontrol : 1#1 = field 1 (slice x 26 26) := congrArg (field 1) h.control.symm
  have hcat : 1#3 = field 3 (slice x 25 23) := congrArg (field 3) h.cat.symm
  have hdesc : 0#3 = field 3 (slice x 22 20) := congrArg (field 3) h.desc.symm
  calc
    samisWord (slice x 46 27) (slice x 19 0) =
        field 1 (slice x 47 47) ++ field 20 (slice x 46 27) ++ field 1 (slice x 26 26) ++ field 3 (slice x 25 23) ++
          field 3 (slice x 22 20) ++ field 20 (slice x 19 0) := by
      rw [← htop, ← hcontrol, ← hcat, ← hdesc, samisWord]
    _ = x.extractLsb' 0 48 := by
      simp (disch := rfl) only [field_slice, BitVec.extractLsb'_append_extractLsb'_eq_extractLsb']
    _ = x := BitVec.extractLsb'_eq_self

theorem ident2Param_of_low {x : Codeword} {low : BitVec 5} (hlow : low = x.extractLsb' 0 5) :
    ident2Param (ident2Of x) low = x.extractLsb' 0 18 := by
  subst hlow
  simp (disch := rfl) only [ident2Param, ident2Of, field_slice, BitVec.extractLsb'_append_extractLsb'_eq_extractLsb']

theorem flags5_slices (x : Codeword) :
    flags5 (slice x 4 4) (slice x 3 3) (slice x 2 2) (slice x 1 1) (slice x 0 0) = x.extractLsb' 0 5 := by
  simp (disch := rfl) only [flags5, field_slice, BitVec.extractLsb'_append_extractLsb'_eq_extractLsb']

theorem field5_slice (x : Codeword) : field 5 (slice x 4 0) = x.extractLsb' 0 5 := field_slice rfl x

theorem twoAndFlags_slices (x : Codeword) :
    field 2 (slice x 4 3) ++ field 1 (slice x 2 2) ++ field 1 (slice x 1 1) ++ field 1 (slice x 0 0) =
      x.extractLsb' 0 5 := by
  simp (disch := rfl) only [field_slice, BitVec.extractLsb'_append_extractLsb'_eq_extractLsb']

theorem qualN_slices (x : Codeword) : field 1 (slice x 4 4) ++ field 4 (slice x 3 0) = x.extractLsb' 0 5 := by
  simp (disch := rfl) only [field_slice, BitVec.extractLsb'_append_extractLsb'_eq_extractLsb']

theorem infoRsvd_slices (x : Codeword) : field 15 (slice x 17 3) ++ field 3 (slice x 2 0) = x.extractLsb' 0 18 := by
  simp (disch := rfl) only [field_slice, BitVec.extractLsb'_append_extractLsb'_eq_extractLsb']

theorem maint_slices (x : Codeword) :
    field 10 (slice x 17 8) ++ field 3 (slice x 7 5) ++ field 2 (slice x 4 3) ++ field 3 (slice x 2 0) =
      x.extractLsb' 0 18 := by
  simp (disch := rfl) only [field_slice, BitVec.extractLsb'_append_extractLsb'_eq_extractLsb']

/-- What TYPE 2 decodes to has the word it was read from, and is one of the seven RQ variants. -/
theorem encode_of_decodeType2 {x : Codeword} {d : Variant} (hx : IsAddr x) (htype : slice x 22 21 = 2)
    (h : decodeType2 x = some d) : receivable d = true ∧ encode d = x := by
  unfold decodeType2 at h
  dsimp only at h
  split at h
  case h_8 => cases h
  all_goals
    obtain rfl := Option.some.inj h
    refine ⟨rfl, addrWord_of_isAddr hx htype ‹_› ?_⟩
  case h_1 | h_4 => exact ident2Param_of_low (flags5_slices x)
  case h_2 | h_6 => exact ident2Param_of_low (field5_slice x)
  case h_3 | h_7 => exact ident2Param_of_low (twoAndFlags_slices x)
  case h_5 => exact infoRsvd_slices x

/-- A word that decodes is the word of what it decodes to, a variant receivable from a radio unit. -/
theorem encode_of_decode {x : Codeword} {d : Variant} (h : decode x = some d) :
    receivable d = true ∧ encode d = x := by
  obtain ⟨hx, hcat0⟩ | ⟨hx, rfl⟩ := decode_eq_some h
  case inr => exact ⟨rfl, samisWord_of_isSam hx⟩
  unfold decodeCat0 at hcat0
  split at hcat0
  case h_1 htype =>
    obtain rfl := Option.some.inj hcat0
    exact ⟨rfl, addrWord_of_isAddr hx htype rfl (ident2Param_of_low (qualN_slices x))⟩
  case h_2 htype => exact encode_of_decodeType2 hx htype hcat0
  case h_3 htype =>
    split at hcat0
    case isTrue hfunc =>
      obtain rfl := Option.some.inj hcat0
      exact ⟨rfl, addrWord_of_isAddr hx htype hfunc (maint_slices x)⟩
    case isFalse => cases hcat0
  case h_4 => cases hcat0

end Sys2Proof.Machine
end

section
/-! PROOF. The decode path of the receive tick (R243). -/

namespace Sys2Proof.Machine

theorem State.forward_of_decoded {cw : Codeword} {d : Variant} (h : decode cw = some d) (s : State) :
    s.forward cw = s.call (.rxfwd s.cfg.chId d) := by rw [State.forward, h]

theorem State.forward_of_dropped {cw : Codeword} (h : decode cw = none) (s : State) : s.forward cw = .ok s := by
  rw [State.forward, h]

/-- A word that is no receivable variant's does not decode (R160, R172). -/
theorem decode_eq_none {x : Codeword} (h : ∀ d : Variant, receivable d = true → encode d ≠ x) :
    decode x = none := by
  cases hx : decode x with
  | none => rfl
  | some d =>
    obtain ⟨hd, henc⟩ := encode_of_decode hx
    exact absurd henc (h d hd)

/-- Settles O49: the word of a variant in range decodes to it, and a word that is no receivable variant's does not
decode. -/
theorem receiveForwardsWhatDecodes : Obligations.ReceiveForwardsWhatDecodes := by
  unfold Obligations.ReceiveForwardsWhatDecodes
  intro s v hrun hrxc
  rw [exec_rxTick_of_free hrun hrxc]
  refine ⟨fun d t hd hwf henc happly => ?forwarded, fun hother => ?dropped⟩
  case forwarded =>
    have hdecode : decode (mask48 v) = some d := calc
      decode (mask48 v) = decode (encode d) := congrArg decode henc.symm
      _ = some (masked d) := decode_encode hd
      _ = some d := congrArg some (masked_of_wf hwf)
    exact conclude_next.mpr ((State.forward_of_decoded hdecode s.begin).trans happly)
  case dropped => exact conclude_next.mpr (State.forward_of_dropped (decode_eq_none hother) s.begin)

end Sys2Proof.Machine
end

section
/-! PROOF. What `decode` answers, exactly (R160, R161, R172, R173), and DEC (R201). -/

namespace Sys2Proof.Machine

/-! ### The round trips (R173) -/

@[simp] theorem fits_mask (w v : Nat) : fits w (mask w v) = true := decide_eq_true (mask_lt w v)

/-- Masked fields are in range. -/
theorem masked_wf (v : Variant) : (masked v).wf = true := by
  cases v <;> simp only [masked, Variant.wf, fitsAddr, fitsAlh, fitsAck, fits_mask, Bool.and_self]

/-- What `decode` answers: the receivable variant in range that has the word. -/
theorem decode_eq_some_iff {x : Codeword} {v : Variant} :
    decode x = some v ↔ receivable v = true ∧ v.wf = true ∧ encode v = x := by
  constructor
  · intro h
    obtain ⟨hrec, henc⟩ := encode_of_decode h
    have hmasked : masked v = v := by
      rw [← henc, decode_encode hrec] at h
      exact Option.some.inj h
    exact ⟨hrec, hmasked ▸ masked_wf v, henc⟩
  · rintro ⟨hrec, hwf, rfl⟩
    rw [decode_encode hrec, masked_of_wf hwf]

/-- Settles O14: both directions are `decode_eq_some_iff` and `decode_encode`. -/
theorem codecRoundTrips : Obligations.CodecRoundTrips := by
  unfold Obligations.CodecRoundTrips
  refine ⟨fun x v h => ?reencoded, fun _ => decode_encode, fun _ => masked_of_wf⟩
  case reencoded =>
    obtain ⟨hrec, hwf, henc⟩ := decode_eq_some_iff.mp h
    exact ⟨henc, hwf, hrec⟩

/-- Settles O33: DEC is `decode` of the word, by definition, and `decode_eq_some_iff` says what that is. -/
theorem decTransaction : Obligations.DecTransaction := by
  unfold Obligations.DecTransaction
  exact fun s n => ⟨decode (mask48 n), rfl, fun _ => decode_eq_some_iff⟩

/-! ### The words that decode (R161, R172) -/

/-- TYPE 2: every `FUNC` but 1. -/
theorem decodeType2_isSome (x : Codeword) : (decodeType2 x).isSome = true ↔ slice x 20 18 ≠ 1 := by
  have hfunc := slice_lt x 20 18
  unfold decodeType2
  dsimp only
  split
  case h_8 => simp only [Option.isSome_none, Bool.false_eq_true, false_iff]; grind
  all_goals simp only [Option.isSome_some, true_iff]; omega

/-- Category 0: the ACK family, TYPE 2, and MAINT. -/
theorem decodeCat0_isSome (x : Codeword) : (decodeCat0 x).isSome = true ↔
    slice x 22 21 = 1 ∨ (slice x 22 21 = 2 ∧ slice x 20 18 ≠ 1) ∨ (slice x 22 21 = 3 ∧ slice x 20 18 = 1) := by
  unfold decodeCat0
  split
  case h_1 htype => simp [htype]
  case h_2 htype => simp [htype, decodeType2_isSome]
  case h_3 htype => split <;> simp [*]
  case h_4 hack htype2 hmaint =>
    simp only [Option.isSome_none, Bool.false_eq_true, false_iff]
    exact fun h => h.elim hack fun h => h.elim (fun h => htype2 h.1) fun h => hmaint h.1

/-- Settles O15: `decode` answers on the words of its two formats, and there as its category does. -/
theorem decodableWordsExactly : Obligations.DecodableWordsExactly := by
  unfold Obligations.DecodableWordsExactly
  intro x
  constructor
  · intro h
    obtain ⟨d, hd⟩ := Option.isSome_iff_exists.mp h
    obtain ⟨hx, hcat0⟩ | ⟨hx, -⟩ := decode_eq_some hd
    · have hsome := (decodeCat0_isSome x).mp (Option.isSome_iff_exists.mpr ⟨d, hcat0⟩)
      exact ⟨hx.top, hx.control, .inl ⟨hx.cat, hsome⟩⟩
    · exact ⟨hx.top, hx.control, .inr ⟨hx.cat, hx.desc⟩⟩
  · rintro ⟨htop, hcontrol, ⟨hcat, hsome⟩ | ⟨hcat, hdesc⟩⟩
    · rw [decode_of_isAddr ⟨htop, hcontrol, hcat⟩]
      exact (decodeCat0_isSome x).mpr hsome
    · rw [decode_of_isSam ⟨htop, hcontrol, hcat, hdesc⟩]
      rfl

end Sys2Proof.Machine
end

section
/-! PROOF. The words of the transmit side: their fields, how a radio unit's decoder reads them (R174), and where two variants
have one word (R131). -/

namespace Sys2Proof.Machine

open Sys2Proof.Spec

/-! ### The fields of the transmit side's words (R62, R64 to R67) -/

/-- The fixed bits of format GTC. -/
structure IsGtc (x : Codeword) : Prop where
  top : slice x 47 47 = 1
  control : slice x 26 26 = 0

theorem gtcWord_isGtc (pfix ident1 d chan ident2 n2 : Nat) : IsGtc (gtcWord pfix ident1 d chan ident2 n2) := by
  have hpfix := mask_lt 7 pfix
  have hident1 := mask_lt 13 ident1
  have hd := mask_lt 1 d
  have hchan := mask_lt 10 chan
  have hident2 := mask_lt 13 ident2
  have hn2 := mask_lt 2 n2
  constructor <;> (rw [slice, gtcWord_toNat]; omega)

/-- The fields of a GTC word (R62). -/
@[simp] theorem slice_gtcWord (pfix ident1 d chan ident2 n2 : Nat) :
    slice (gtcWord pfix ident1 d chan ident2 n2) 46 40 = mask 7 pfix ∧
    slice (gtcWord pfix ident1 d chan ident2 n2) 39 27 = mask 13 ident1 ∧
    slice (gtcWord pfix ident1 d chan ident2 n2) 25 25 = mask 1 d ∧
    slice (gtcWord pfix ident1 d chan ident2 n2) 24 15 = mask 10 chan ∧
    slice (gtcWord pfix ident1 d chan ident2 n2) 14 2 = mask 13 ident2 ∧
    slice (gtcWord pfix ident1 d chan ident2 n2) 1 0 = mask 2 n2 := by
  have hpfix := mask_lt 7 pfix
  have hident1 := mask_lt 13 ident1
  have hd := mask_lt 1 d
  have hchan := mask_lt 10 chan
  have hident2 := mask_lt 13 ident2
  have hn2 := mask_lt 2 n2
  and_intros <;> (rw [slice, gtcWord_toNat]; omega)

/-- The fields of the ALH family (R67). -/
@[simp] theorem slice_addrWord_alh (pfix ident1 type func chan4 wt rsvd m n : Nat) :
    slice (addrWord pfix ident1 type func (field 4 chan4 ++ field 3 wt ++ field 2 rsvd ++ field 5 m ++ field 4 n)) 17 14 =
      mask 4 chan4 ∧
    slice (addrWord pfix ident1 type func (field 4 chan4 ++ field 3 wt ++ field 2 rsvd ++ field 5 m ++ field 4 n)) 13 11 =
      mask 3 wt ∧
    slice (addrWord pfix ident1 type func (field 4 chan4 ++ field 3 wt ++ field 2 rsvd ++ field 5 m ++ field 4 n)) 10 9 =
      mask 2 rsvd ∧
    slice (addrWord pfix ident1 type func (field 4 chan4 ++ field 3 wt ++ field 2 rsvd ++ field 5 m ++ field 4 n)) 8 4 =
      mask 5 m ∧
    slice (addrWord pfix ident1 type func (field 4 chan4 ++ field 3 wt ++ field 2 rsvd ++ field 5 m ++ field 4 n)) 3 0 =
      mask 4 n := by
  simp (disch := decide) only [slice_addrWord_param, append_toNat_add, field_toNat, mask]
  and_intros <;> omega

/-- The fields of AHYC below `IDENT2` (R67). -/
@[simp] theorem slice_addrWord_slotsDesc (pfix ident1 type func ident2 slots desc : Nat) :
    slice (addrWord pfix ident1 type func (ident2Param ident2 (field 2 slots ++ field 3 desc))) 4 3 = mask 2 slots ∧
    slice (addrWord pfix ident1 type func (ident2Param ident2 (field 2 slots ++ field 3 desc))) 2 0 = mask 3 desc := by
  simp (disch := decide) only [slice_addrWord_low, append_toNat_add, field_toNat, mask]
  and_intros <;> omega

/-- The fields of MOVE (R67). -/
@[simp] theorem slice_addrWord_move (pfix ident1 type func cont m2 rsvd spare : Nat) :
    slice (addrWord pfix ident1 type func (field 10 cont ++ field 2 m2 ++ field 2 rsvd ++ field 4 spare)) 17 8 =
      mask 10 cont ∧
    slice (addrWord pfix ident1 type func (field 10 cont ++ field 2 m2 ++ field 2 rsvd ++ field 4 spare)) 7 6 =
      mask 2 m2 ∧
    slice (addrWord pfix ident1 type func (field 10 cont ++ field 2 m2 ++ field 2 rsvd ++ field 4 spare)) 5 4 =
      mask 2 rsvd ∧
    slice (addrWord pfix ident1 type func (field 10 cont ++ field 2 m2 ++ field 2 rsvd ++ field 4 spare)) 3 0 =
      mask 4 spare := by
  simp (disch := decide) only [slice_addrWord_param, append_toNat_add, field_toNat, mask]
  and_intros <;> omega

/-- The fixed bits of a TYPE 3 word with the `FUNC` given. -/
structure IsType3 (func : Nat) (x : Codeword) : Prop where
  addr : IsAddr x
  type : slice x 22 21 = 3
  func : slice x 20 18 = func

theorem addrWord_isType3 (pfix ident1 func : Nat) (p : BitVec 18) :
    IsType3 (mask 3 func) (addrWord pfix ident1 3 func p) :=
  ⟨addrWord_isAddr .., slice_addrWord_type .., slice_addrWord_func ..⟩

theorem clearWord_isType3 (chan cont rsvd spare : Nat) : IsType3 2 (clearWord chan cont rsvd spare) := by
  have hchan := mask_lt 10 chan
  have hcont := mask_lt 10 cont
  have hrsvd := mask_lt 4 rsvd
  have hspare := mask_lt 2 spare
  refine ⟨⟨?_, ?_, ?_⟩, ?_, ?_⟩ <;> (rw [slice, clearWord_toNat]; omega)

theorem bcastWord_isType3 (sysdef p15 p18 : Nat) : IsType3 4 (bcastWord sysdef p15 p18) := by
  have hsysdef := mask_lt 5 sysdef
  have hp15 := mask_lt 15 p15
  have hp18 := mask_lt 18 p18
  refine ⟨⟨?_, ?_, ?_⟩, ?_, ?_⟩ <;> (rw [slice, bcastWord_toNat]; omega)

/-- The fields of a CLEAR word, and its fixed low bits (R64). -/
@[simp] theorem slice_clearWord (chan cont rsvd spare : Nat) :
    slice (clearWord chan cont rsvd spare) 46 37 = mask 10 chan ∧
    slice (clearWord chan cont rsvd spare) 36 27 = mask 10 cont ∧
    slice (clearWord chan cont rsvd spare) 17 14 = mask 4 rsvd ∧
    slice (clearWord chan cont rsvd spare) 13 12 = mask 2 spare ∧
    slice (clearWord chan cont rsvd spare) 11 0 = 0xAAA := by
  have hchan := mask_lt 10 chan
  have hcont := mask_lt 10 cont
  have hrsvd := mask_lt 4 rsvd
  have hspare := mask_lt 2 spare
  and_intros <;> (rw [slice, clearWord_toNat]; omega)

/-- The head fields of a broadcast word (R65). -/
@[simp] theorem slice_bcastWord (sysdef p15 p18 : Nat) :
    slice (bcastWord sysdef p15 p18) 46 42 = mask 5 sysdef ∧
    slice (bcastWord sysdef p15 p18) 41 27 = mask 15 p15 := by
  have hsysdef := mask_lt 5 sysdef
  have hp15 := mask_lt 15 p15
  have hp18 := mask_lt 18 p18
  and_intros <;> (rw [slice, bcastWord_toNat]; omega)

/-- A slice below bit 18 of a broadcast word is one of `P18`. -/
theorem slice_bcastWord_param (sysdef p15 p18 : Nat) {hi lo : Nat} (hhi : hi < 18) (hlo : lo ≤ hi) :
    slice (bcastWord sysdef p15 p18) hi lo = mask 18 p18 / 2 ^ lo % 2 ^ (hi - lo + 1) := by
  rw [slice_eq_extract, bcastWord, BitVec.extractLsb'_append_eq_of_add_le (by omega), BitVec.extractLsb'_toNat,
    Nat.shiftRight_eq_div_pow, field_toNat]

/-! ### How a radio unit's decoder reads them (R160, R172, R174) -/

theorem decode_of_top_clear {x : Codeword} (h : slice x 47 47 = 0) : decode x = none := by rw [decode, if_pos h]

theorem decode_of_isGtc {x : Codeword} (h : IsGtc x) : decode x = none := by
  simp only [decode, h.top, h.control, one_ne_zero, if_false, if_true]

/-- An addressed word of TYPE 0, the ALH family, is no message. -/
theorem decode_of_type0 {x : Codeword} (hx : IsAddr x) (htype : slice x 22 21 = 0) : decode x = none := by
  simp only [decode_of_isAddr hx, decodeCat0, htype]

/-- A TYPE 3 word is no message unless it is MAINT. -/
theorem decode_of_isType3 {x : Codeword} {func : Nat} (hx : IsType3 func x) (hfunc : func ≠ 1) : decode x = none := by
  simp only [decode_of_isAddr hx.addr, decodeCat0, hx.type, hx.func, if_neg hfunc]

/-- The three low bits of AHYC are the three flags of RQC (R131). -/
theorem field_desc_eq_flags (slots desc : Nat) :
    field 2 slots ++ field 3 desc = field 2 slots ++ field 1 (desc / 4) ++ field 1 (desc / 2) ++ field 1 desc := by
  apply BitVec.eq_of_toNat_eq
  simp only [append_toNat_add, field_toNat, mask]
  omega

theorem encode_ahyc (pfix ident1 ident2 slots desc : Nat) : encode (.ahyc pfix ident1 ident2 slots desc) =
    encode (.rqc pfix ident1 ident2 slots (desc / 4) (desc / 2) desc) :=
  congrArg (type2Word 7 pfix ident1 ident2) (field_desc_eq_flags slots desc)

/-- The receivable variant as which the word of a variant is read: itself, or for the AHY family the RQ variant with the
same `FUNC` (R174). -/
def heardAs : Variant → Option Variant
  | .ahy pfix ident1 ident2 d point check e ad => some (.rqs pfix ident1 ident2 d point check e ad)
  | .ahyx pfix ident1 ident2 rsvd => some (.rqx pfix ident1 ident2 rsvd)
  | .ahyq pfix ident1 ident2 status => some (.rqq pfix ident1 ident2 status)
  | .ahyc pfix ident1 ident2 slots desc => some (.rqc pfix ident1 ident2 slots (desc / 4) (desc / 2) desc)
  | v => if receivable v then some v else none

/-- What `decode` reads in the word of any variant. -/
theorem decode_encode_eq_heardAs (v : Variant) : decode (encode v) = (heardAs v).map masked := by
  cases v
  case ccsc | dcsc => exact decode_of_top_clear (slice_syncCW_top ..)
  case gtc => exact decode_of_isGtc (gtcWord_isGtc ..)
  case alhFam => exact decode_of_type0 (addrWord_isAddr ..) (slice_addrWord_type ..)
  case clear => exact decode_of_isType3 (clearWord_isType3 ..) (by decide)
  case move => exact decode_of_isType3 (addrWord_isType3 ..) (by decide)
  case bcast => exact decode_of_isType3 (bcastWord_isType3 ..) (by decide)
  -- The words of AHY, AHYX and AHYQ are those of RQS, RQX and RQQ by definition.
  case ahy pfix ident1 ident2 d point check e ad =>
    exact decode_encode (v := .rqs pfix ident1 ident2 d point check e ad) rfl
  case ahyx pfix ident1 ident2 rsvd => exact decode_encode (v := .rqx pfix ident1 ident2 rsvd) rfl
  case ahyq pfix ident1 ident2 status => exact decode_encode (v := .rqq pfix ident1 ident2 status) rfl
  case ahyc => rw [encode_ahyc, decode_encode rfl]; rfl
  all_goals exact decode_encode rfl

/-- Settles O16: each clause is a case of `heardAs`. -/
theorem transmitSideWordsRead : Obligations.TransmitSideWordsRead := by
  unfold Obligations.TransmitSideWordsRead
  simp only [decode_encode_eq_heardAs]
  refine ⟨fun _ => ⟨rfl, rfl⟩, ?_, ?_, ?_, ?_, ?_, ?_, ?_, ?_, ?_⟩ <;> intros <;> rfl

/-! ### Where two variants have one word (R131) -/

/-- The variant of the transmit side that a word of its formats stands for (R69). -/
def sentAs (x : Codeword) : Variant :=
  let pfix := slice x 46 40
  let ident1 := slice x 39 27
  if slice x 47 47 = 0 then
    if fcs x = SyncFamily.sync .ccsc then .ccsc (slice x 46 32) else .dcsc (slice x 46 32)
  else if slice x 26 26 = 0 then
    .gtc pfix ident1 (slice x 25 25) (slice x 24 15) (slice x 14 2) (slice x 1 0)
  else match slice x 22 21, slice x 20 18 with
    | 0, func => .alhFam func pfix ident1 (slice x 17 14) (slice x 13 11) (slice x 10 9) (slice x 8 4) (slice x 3 0)
    | 2, 0 =>
      .ahy pfix ident1 (ident2Of x) (slice x 4 4) (slice x 3 3) (slice x 2 2) (slice x 1 1) (slice x 0 0)
    | 2, 2 => .ahyx pfix ident1 (ident2Of x) (slice x 4 0)
    | 2, 6 => .ahyq pfix ident1 (ident2Of x) (slice x 4 0)
    | 2, _ => .ahyc pfix ident1 (ident2Of x) (slice x 4 3) (slice x 2 0)
    | _, 2 => .clear (slice x 46 37) (slice x 36 27) (slice x 17 14) (slice x 13 12)
    | _, 3 => .move pfix ident1 (slice x 17 8) (slice x 7 6) (slice x 5 4) (slice x 3 0)
    | _, _ => .bcast (slice x 46 42) (slice x 41 27) (slice x 17 0)

/-- `sentAs` reads the word of every variant that is only sent. -/
theorem sentAs_encode {v : Variant} (hv : receivable v = false) : sentAs (encode v) = masked v := by
  cases v
  case ccsc => simp [encode, sentAs, masked, slice_syncCW_top, fcs_syncCW, slice_syncCW_sys]
  case dcsc => simp [encode, sentAs, masked, slice_syncCW_top, fcs_syncCW, slice_syncCW_sys, SyncFamily.sync]
  case gtc => simp [encode, sentAs, masked, (gtcWord_isGtc ..).top, (gtcWord_isGtc ..).control]
  case alhFam => simp [encode, alhWord, sentAs, masked, (addrWord_isAddr ..).top, (addrWord_isAddr ..).control, mask]
  case ahy | ahyx | ahyq | ahyc =>
    simp [encode, type2Word, sentAs, masked, (addrWord_isAddr ..).top, (addrWord_isAddr ..).control, mask]
  case move => simp [encode, sentAs, masked, (addrWord_isAddr ..).top, (addrWord_isAddr ..).control, mask]
  case clear chan cont rsvd spare =>
    have h := clearWord_isType3 chan cont rsvd spare
    simp [encode, sentAs, masked, h.addr.top, h.addr.control, h.type, h.func]
  case bcast sysdef p15 p18 =>
    have h := bcastWord_isType3 sysdef p15 p18
    have hp18 : slice (bcastWord sysdef p15 p18) 17 0 = mask 18 p18 := by
      rw [slice_bcastWord_param _ _ _ (by decide) (by decide), mask]; omega
    simp [encode, sentAs, masked, h.addr.top, h.addr.control, h.type, h.func, hp18]
  all_goals cases hv

/-- A variant that is only sent and has the word of a receivable one makes one of the pairs of R131 with it. -/
theorem sameWordPair_of_encode_eq {v u : Variant} (hv : receivable v = false) (hvwf : v.wf = true)
    (hu : receivable u = true) (huwf : u.wf = true) (h : encode v = encode u) : SameWordPair v u := by
  have hread : (heardAs v).map masked = some u := by
    rw [← decode_encode_eq_heardAs, h, decode_encode hu, masked_of_wf huwf]
  obtain ⟨r, hr, hmasked⟩ := Option.map_eq_some_iff.mp hread
  cases v
  -- The ranges of AHY, AHYX and AHYQ are those of RQS, RQX and RQQ by definition.
  case ahy | ahyx | ahyq =>
    have hrwf : r.wf = true := by cases hr; exact hvwf
    rw [← hmasked, masked_of_wf hrwf]
    cases hr
    simp only [SameWordPair, and_self]
  case ahyc pfix ident1 ident2 slots desc =>
    obtain rfl := Option.some.inj hr
    simp only [Variant.wf, Bool.and_eq_true] at hvwf
    obtain ⟨⟨⟨⟨hpfix, hident1⟩, hident2⟩, hslots⟩, hdesc⟩ := hvwf
    have hflags : desc = 4 * mask 1 (desc / 4) + 2 * mask 1 (desc / 2) + mask 1 desc := by
      have hlt : desc < 2 ^ 3 := of_decide_eq_true hdesc
      simp only [mask]
      omega
    rw [← hmasked]
    exact ⟨(mask_of_fits hpfix).symm, (mask_of_fits hident1).symm, (mask_of_fits hident2).symm,
      (mask_of_fits hslots).symm, hflags⟩
  all_goals cases hv <;> cases hr

/-- Settles O17: `decode` tells the receivable variants apart, `sentAs` the others, and one of each is a pair. -/
theorem encodeCollidesOnlyInThePairs : Obligations.EncodeCollidesOnlyInThePairs := by
  unfold Obligations.EncodeCollidesOnlyInThePairs
  intro v u hvwf huwf h
  cases hv : receivable v <;> cases hu : receivable u
  case false.false =>
    refine .inl ?_
    rw [← masked_of_wf hvwf, ← masked_of_wf huwf, ← sentAs_encode hv, ← sentAs_encode hu, h]
  case false.true => exact .inr (.inl (sameWordPair_of_encode_eq hv hvwf hu huwf h))
  case true.false => exact .inr (.inr (sameWordPair_of_encode_eq hu huwf hv hvwf h.symm))
  case true.true =>
    refine .inl (Option.some.inj ?_)
    rw [← masked_of_wf hvwf, ← masked_of_wf huwf, ← decode_encode hv, ← decode_encode hu, h]

end Sys2Proof.Machine
end

section
/-! PROOF. The codeword rows as instructions (log 2): each answers the word of its variant, of the value of its packing
expression, and with the fixed bits of its opcode-table entry. -/

namespace Sys2Proof.Machine

open Sys2Proof.Spec

/-! ### The variant of a row -/

/-- The variant whose codeword a row of the opcode table answers; the marker and the transactions have none. -/
def rowVariant : Instr → Option Variant
  | .ccsc sys => some (.ccsc sys)
  | .dcsc sys => some (.dcsc sys)
  | .gtc pfix ident1 d chan ident2 n2 => some (.gtc pfix ident1 d chan ident2 n2)
  | .alh pfix ident1 chan4 wt rsvd m n => some (.alhFam 0 pfix ident1 chan4 wt rsvd m n)
  | .alhs pfix ident1 chan4 wt rsvd m n => some (.alhFam 1 pfix ident1 chan4 wt rsvd m n)
  | .alhd pfix ident1 chan4 wt rsvd m n => some (.alhFam 2 pfix ident1 chan4 wt rsvd m n)
  | .alhe pfix ident1 chan4 wt rsvd m n => some (.alhFam 3 pfix ident1 chan4 wt rsvd m n)
  | .alhr pfix ident1 chan4 wt rsvd m n => some (.alhFam 4 pfix ident1 chan4 wt rsvd m n)
  | .alhx pfix ident1 chan4 wt rsvd m n => some (.alhFam 5 pfix ident1 chan4 wt rsvd m n)
  | .alhf pfix ident1 chan4 wt rsvd m n => some (.alhFam 6 pfix ident1 chan4 wt rsvd m n)
  | .ack pfix ident1 ident2 qual n => some (.ackFam 0 pfix ident1 ident2 qual n)
  | .acki pfix ident1 ident2 qual n => some (.ackFam 1 pfix ident1 ident2 qual n)
  | .ackq pfix ident1 ident2 qual n => some (.ackFam 2 pfix ident1 ident2 qual n)
  | .ackx pfix ident1 ident2 qual n => some (.ackFam 3 pfix ident1 ident2 qual n)
  | .ackv pfix ident1 ident2 qual n => some (.ackFam 4 pfix ident1 ident2 qual n)
  | .acke pfix ident1 ident2 qual n => some (.ackFam 5 pfix ident1 ident2 qual n)
  | .ackt pfix ident1 ident2 qual n => some (.ackFam 6 pfix ident1 ident2 qual n)
  | .ackb pfix ident1 ident2 qual n => some (.ackFam 7 pfix ident1 ident2 qual n)
  | .ahy pfix ident1 ident2 d point check e ad => some (.ahy pfix ident1 ident2 d point check e ad)
  | .ahyx pfix ident1 ident2 rsvd => some (.ahyx pfix ident1 ident2 rsvd)
  | .ahyq pfix ident1 ident2 status => some (.ahyq pfix ident1 ident2 status)
  | .ahyc pfix ident1 ident2 slots desc => some (.ahyc pfix ident1 ident2 slots desc)
  | .rqs pfix ident1 ident2 dt level ext flag1 flag2 => some (.rqs pfix ident1 ident2 dt level ext flag1 flag2)
  | .rqx pfix ident1 ident2 rsvd => some (.rqx pfix ident1 ident2 rsvd)
  | .rqt pfix ident1 ident2 sd div flag1 flag2 => some (.rqt pfix ident1 ident2 sd div flag1 flag2)
  | .rqe pfix ident1 ident2 d rsvd ext flag1 flag2 => some (.rqe pfix ident1 ident2 d rsvd ext flag1 flag2)
  | .rqr pfix ident1 info rsvd => some (.rqr pfix ident1 info rsvd)
  | .rqq pfix ident1 ident2 status => some (.rqq pfix ident1 ident2 status)
  | .rqc pfix ident1 ident2 slots ext flag1 flag2 => some (.rqc pfix ident1 ident2 slots ext flag1 flag2)
  | .maint pfix ident1 chan oper rsvd spare => some (.maint pfix ident1 chan oper rsvd spare)
  | .clear chan cont rsvd spare => some (.clear chan cont rsvd spare)
  | .move pfix ident1 cont m2 rsvd spare => some (.move pfix ident1 cont m2 rsvd spare)
  | .bcast sysdef p15 p18 => some (.bcast sysdef p15 p18)
  | .bcastAnn sys chan spare rsvd => some (bcastAnn sys chan spare rsvd)
  | .bcastWdr sys chan spare rsvd => some (bcastWdr sys chan spare rsvd)
  | .bcastMaint sys per ival pon ident rsvd spare => some (bcastMaint sys per ival pon ident rsvd spare)
  | .bcastReg sys rsvd spare => some (bcastReg sys rsvd spare)
  | .bcastAdj sys chan spare rsvd adjsite => some (bcastAdj sys chan spare rsvd adjsite)
  | .bcastVote sys chan spare rsvd adjsite => some (bcastVote sys chan spare rsvd adjsite)
  | .samis p1 p2 => some (.samis p1 p2)
  | _ => none

/-- A codeword row in every state: the codeword of its variant, and nothing else changes. -/
theorem exec_of_rowVariant {i : Instr} {v : Variant} (h : rowVariant i = some v) (s : State) :
    exec i s = .next { s with result := .code (encode v), events := [] } := by
  cases i
  case traffic | nop | start | stop | enqCC | enqTC | setIdent | txTick | rxTick | identDone | fcs | enc | dec | reset =>
    cases h
  all_goals
    obtain rfl := Option.some.inj h
    rfl

/-- A row whose variant has a packing expression answers the word of its value. -/
theorem answersWord_of_row {i : Instr} {v : Variant} {n : Nat} (hrow : rowVariant i = some v)
    (hpacked : packed v = some n) : AnswersWord i n :=
  ⟨encode v, encode_toNat_of_packed hpacked, exec_of_rowVariant hrow⟩

/-! ### The rows by family (R111 to R153) -/

/-- Settles O18: the rows by their variant, the codewords by their format and their FCS. -/
theorem syncRowsAnswerTheirCodeword : Obligations.SyncRowsAnswerTheirCodeword := by
  unfold Obligations.SyncRowsAnswerTheirCodeword
  exact fun sys => ⟨answersSync_of_exec (exec_of_rowVariant (i := .ccsc sys) rfl),
    answersSync_of_exec (exec_of_rowVariant (i := .dcsc sys) rfl)⟩

/-- Settles O19: the row by its variant. -/
theorem gtcRowPacksItsFields : Obligations.GtcRowPacksItsFields := by
  unfold Obligations.GtcRowPacksItsFields
  exact fun _ _ _ _ _ _ => answersWord_of_row rfl rfl

/-- Settles O20: each row by its variant, `ALHfam` with the row's `FUNC`. -/
theorem alohaRowsPackTheirFields : Obligations.AlohaRowsPackTheirFields := by
  unfold Obligations.AlohaRowsPackTheirFields
  intros
  and_intros <;> exact answersWord_of_row rfl rfl

/-- Settles O21: each row by its variant, `ACKfam` with the row's `FUNC`. -/
theorem ackRowsPackTheirFields : Obligations.AckRowsPackTheirFields := by
  unfold Obligations.AckRowsPackTheirFields
  intros
  and_intros <;> exact answersWord_of_row rfl rfl

/-- Settles O22: each row by its variant. -/
theorem ahoyRowsPackTheirFields : Obligations.AhoyRowsPackTheirFields := by
  unfold Obligations.AhoyRowsPackTheirFields
  and_intros <;> intros <;> exact answersWord_of_row rfl rfl

/-- Settles O23: each row by its variant. -/
theorem requestRowsPackTheirFields : Obligations.RequestRowsPackTheirFields := by
  unfold Obligations.RequestRowsPackTheirFields
  and_intros <;> intros <;> exact answersWord_of_row rfl rfl

/-- Settles O24: each row by its variant. -/
theorem controlRowsPackTheirFields : Obligations.ControlRowsPackTheirFields := by
  unfold Obligations.ControlRowsPackTheirFields
  and_intros <;> intros <;> exact answersWord_of_row rfl rfl

/-! ### The views' `P18` as packing expressions (R147 to R152) -/

theorem chanParam_eq_or (chan spare rsvd : Nat) :
    chanParam chan spare rsvd = mask 10 chan <<< 8 ||| mask 2 spare <<< 6 ||| mask 6 rsvd := by
  simp only [chanParam, BitVec.toNat_append, field_toNat, shiftLeft_or_or, Nat.or_assoc, ← Nat.shiftLeft_add]

theorem maintParam_eq_or (per ival pon ident rsvd spare : Nat) : maintParam per ival pon ident rsvd spare =
    mask 1 per <<< 17 ||| mask 5 ival <<< 12 ||| mask 1 pon <<< 11 ||| mask 1 ident <<< 10 ||| mask 2 rsvd <<< 8
      ||| mask 8 spare := by
  simp only [maintParam, BitVec.toNat_append, field_toNat, shiftLeft_or_or, Nat.or_assoc, ← Nat.shiftLeft_add]

theorem regParam_eq_or (rsvd spare : Nat) : regParam rsvd spare = mask 4 rsvd <<< 14 ||| mask 14 spare := by
  simp only [regParam, BitVec.toNat_append, field_toNat]

theorem siteParam_eq_or (chan spare rsvd adjsite : Nat) : siteParam chan spare rsvd adjsite =
    mask 10 chan <<< 8 ||| mask 2 spare <<< 6 ||| mask 2 rsvd <<< 4 ||| mask 4 adjsite := by
  simp only [siteParam, BitVec.toNat_append, field_toNat, shiftLeft_or_or, Nat.or_assoc, ← Nat.shiftLeft_add]

/-- Settles O25: the raw broadcast by its layout, a view by the broadcast it abbreviates. -/
theorem broadcastRowsPackTheirFields : Obligations.BroadcastRowsPackTheirFields := by
  unfold Obligations.BroadcastRowsPackTheirFields
  simp only [← chanParam_eq_or, ← maintParam_eq_or, ← regParam_eq_or, ← siteParam_eq_or]
  and_intros <;> intros <;> and_intros <;> exact answersWord_of_row rfl rfl

/-- Settles O26: by definition (log 3). -/
theorem trafficRowAnswersTheMark : Obligations.TrafficRowAnswersTheMark := by
  unfold Obligations.TrafficRowAnswersTheMark
  exact fun _ => rfl

/-! ### The fixed bits of a row (R61 to R69) -/

/-- Format SYNC: bit 47 and the preamble. -/
theorem syncCW_and_mask (s : BitVec 15) (fam : SyncFamily) : syncCW s fam &&& 0x80000000FFFF = 0x00000000AAAA := by
  have h : (0#1 ++ s ++ completion s fam ++ preamble) &&& (1#1 ++ 0#15 ++ 0#16 ++ BitVec.allOnes 16) =
      0#1 ++ 0#15 ++ 0#16 ++ preamble := by
    simp only [BitVec.and_append, BitVec.and_zero, BitVec.zero_and, BitVec.and_allOnes]
  exact h

/-- Format GTC: bits 47 and 26. -/
theorem gtcWord_and_mask (pfix ident1 d chan ident2 n2 : Nat) :
    gtcWord pfix ident1 d chan ident2 n2 &&& 0x800004000000 = 0x800000000000 := by
  have h : (1#1 ++ field 7 pfix ++ field 13 ident1 ++ 0#1 ++ field 1 d ++ field 10 chan ++ field 13 ident2
      ++ field 2 n2) &&& (1#1 ++ 0#7 ++ 0#13 ++ 1#1 ++ 0#1 ++ 0#10 ++ 0#13 ++ 0#2) =
      1#1 ++ 0#7 ++ 0#13 ++ 0#1 ++ 0#1 ++ 0#10 ++ 0#13 ++ 0#2 := by
    simp only [BitVec.and_append, BitVec.and_zero, BitVec.and_self, BitVec.zero_and]
  exact h

/-- Format ADDR: bits 47 and 26, `CAT`, `TYPE` and `FUNC`. -/
theorem addrWord_and_mask (pfix ident1 type func : Nat) (p : BitVec 18) :
    addrWord pfix ident1 type func p &&& 0x800007FC0000 =
      1#1 ++ 0#7 ++ 0#13 ++ 1#1 ++ 0#3 ++ field 2 type ++ field 3 func ++ 0#18 := by
  have h : (1#1 ++ field 7 pfix ++ field 13 ident1 ++ 1#1 ++ 0#3 ++ field 2 type ++ field 3 func ++ p) &&&
      (1#1 ++ 0#7 ++ 0#13 ++ 1#1 ++ 7#3 ++ BitVec.allOnes 2 ++ BitVec.allOnes 3 ++ 0#18) =
      1#1 ++ 0#7 ++ 0#13 ++ 1#1 ++ 0#3 ++ field 2 type ++ field 3 func ++ 0#18 := by
    simp only [BitVec.and_append, BitVec.and_zero, BitVec.and_self, BitVec.zero_and, BitVec.and_allOnes]
  exact h

/-- Format CLEAR: as ADDR, and the low 12 bits. -/
theorem clearWord_and_mask (chan cont rsvd spare : Nat) :
    clearWord chan cont rsvd spare &&& 0x800007FC0FFF = 0x800004680AAA := by
  have h : (1#1 ++ field 10 chan ++ field 10 cont ++ 1#1 ++ 0#3 ++ 3#2 ++ 2#3 ++ field 4 rsvd ++ field 2 spare
      ++ 0xAAA#12) &&& (1#1 ++ 0#10 ++ 0#10 ++ 1#1 ++ 7#3 ++ 3#2 ++ BitVec.allOnes 3 ++ 0#4 ++ 0#2 ++ BitVec.allOnes 12) =
      1#1 ++ 0#10 ++ 0#10 ++ 1#1 ++ 0#3 ++ 3#2 ++ 2#3 ++ 0#4 ++ 0#2 ++ 0xAAA#12 := by
    simp only [BitVec.and_append, BitVec.and_zero, BitVec.and_self, BitVec.zero_and, BitVec.and_allOnes]
  exact h

/-- Format BCAST of a view: as ADDR, and `SYSDEF`. -/
theorem bcastWord_and_viewMask (sysdef p15 p18 : Nat) : bcastWord sysdef p15 p18 &&& 0xFC0007FC0000 =
    1#1 ++ field 5 sysdef ++ 0#15 ++ 1#1 ++ 0#3 ++ 3#2 ++ 4#3 ++ 0#18 := by
  have h : (1#1 ++ field 5 sysdef ++ field 15 p15 ++ 1#1 ++ 0#3 ++ 3#2 ++ 4#3 ++ field 18 p18)
      &&& (1#1 ++ BitVec.allOnes 5 ++ 0#15 ++ 1#1 ++ 7#3 ++ 3#2 ++ BitVec.allOnes 3 ++ 0#18) =
      1#1 ++ field 5 sysdef ++ 0#15 ++ 1#1 ++ 0#3 ++ 3#2 ++ 4#3 ++ 0#18 := by
    simp only [BitVec.and_append, BitVec.and_zero, BitVec.and_self, BitVec.zero_and, BitVec.and_allOnes]
  exact h

/-- Format BCAST: as ADDR. -/
theorem bcastWord_and_mask (sysdef p15 p18 : Nat) :
    bcastWord sysdef p15 p18 &&& 0x800007FC0000 = 0x800004700000 := by
  have h : (1#1 ++ field 5 sysdef ++ field 15 p15 ++ 1#1 ++ 0#3 ++ 3#2 ++ 4#3 ++ field 18 p18)
      &&& (1#1 ++ 0#5 ++ 0#15 ++ 1#1 ++ 7#3 ++ 3#2 ++ BitVec.allOnes 3 ++ 0#18) =
      1#1 ++ 0#5 ++ 0#15 ++ 1#1 ++ 0#3 ++ 3#2 ++ 4#3 ++ 0#18 := by
    simp only [BitVec.and_append, BitVec.and_zero, BitVec.and_self, BitVec.zero_and, BitVec.and_allOnes]
  exact h

/-- Format SAM: bits 47 and 26, `CAT` and the descriptor. -/
theorem samisWord_and_mask (p1 p2 : Nat) : samisWord p1 p2 &&& 0x800007F00000 = 0x800004800000 := by
  have h : (1#1 ++ field 20 p1 ++ 1#1 ++ 1#3 ++ 0#3 ++ field 20 p2) &&&
      (1#1 ++ 0#20 ++ 1#1 ++ BitVec.allOnes 3 ++ 7#3 ++ 0#20) = 1#1 ++ 0#20 ++ 1#1 ++ 1#3 ++ 0#3 ++ 0#20 := by
    simp only [BitVec.and_append, BitVec.and_zero, BitVec.and_self, BitVec.zero_and, BitVec.and_allOnes]
  exact h

/-- Every row with an opcode-table entry is a codeword row, whose word has the fixed bits of the entry. -/
theorem row_meets_table {i : Instr} {m k : Codeword} (h : tableRow i = some (m, k)) :
    ∃ v, rowVariant i = some v ∧ encode v &&& k = m := by
  cases i
  case traffic | nop | start | stop | enqCC | enqTC | setIdent | txTick | rxTick | identDone | fcs | enc | dec | reset =>
    cases h
  all_goals
    obtain ⟨rfl, rfl⟩ := Prod.mk.inj (Option.some.inj h)
    refine ⟨_, rfl, ?_⟩
  case ccsc | dcsc => exact syncCW_and_mask ..
  case gtc => exact gtcWord_and_mask ..
  case clear => exact clearWord_and_mask ..
  case bcast => exact bcastWord_and_mask ..
  case bcastAnn | bcastWdr | bcastMaint | bcastReg | bcastAdj | bcastVote => exact bcastWord_and_viewMask ..
  case samis => exact samisWord_and_mask ..
  all_goals exact addrWord_and_mask ..

/-- Settles O5: the word of the row's variant. -/
theorem codewordRowsMatchTheOpcodeTable : Obligations.CodewordRowsMatchTheOpcodeTable := by
  unfold Obligations.CodewordRowsMatchTheOpcodeTable
  intro i m k h
  obtain ⟨v, hrow, hbits⟩ := row_meets_table h
  exact ⟨encode v, hbits, exec_of_rowVariant hrow⟩

end Sys2Proof.Machine
end

section
/-! PROOF. The decoder of requests (R69 to R75): it gives back every instruction from the request that carries it, a raw
broadcast by the name of its view. -/

namespace Sys2Proof.Machine

/-! ### Operand words (R22, R72) -/

theorem payloadOfWords_wordsOfPayload (p : Payload) : payloadOfWords (wordsOfPayload p) = some p := by
  induction p with
  | nil => rfl
  | cons b rest ih =>
    have ih' : payloadOfWords (rest.map BitVec.toNat) = some rest := ih
    have hb : b.toNat < 256 := b.isLt
    simp only [wordsOfPayload, List.map_cons, payloadOfWords, if_pos hb, ih', Option.map_some, BitVec.ofNat_toNat,
      BitVec.setWidth_eq]

theorem itemOfWords_wordsOfItem (it : ItemOperand) : itemOfWords (wordsOfItem it) = some it := by
  obtain ⟨cw, txcEn, txcTag, rlen, rxcEn, rxcTag⟩ := it
  cases txcEn <;> cases rxcEn <;> rfl

theorem variantOfWords_wordsOfVariant (v : Variant) : variantOfWords (wordsOfVariant v) = some v := by
  cases v <;> rfl

/-! ### The opcode map on the formats (R69) -/

/-- A word of the transmit side is read by the opcode map (R75). -/
theorem decodeRequest_sentRequest (v : Variant) : decodeRequest (sentRequest v) = classify false (encode v) := by
  rw [sentRequest, decodeRequest, decodeSlot, slot_kind, slot_data]
  rfl

theorem classify_syncCW (fromUnit : Bool) (s : BitVec 15) (fam : SyncFamily) : classify fromUnit (syncCW s fam) =
    .ok (match fam with | .ccsc => .ccsc s.toNat | .dcsc => .dcsc s.toNat) := by
  have hpreamble : slice (syncCW s fam) 15 0 = preamble.toNat := slice_syncCW_preamble s fam
  rw [classify, if_pos (slice_syncCW_top s fam), classifySync, if_pos hpreamble, fcs_syncCW, slice_syncCW_sys]
  cases fam <;> rfl

theorem classify_of_isGtc {x : Codeword} (h : IsGtc x) (fromUnit : Bool) :
    classify fromUnit x = .ok (classifyGtc x) := by
  simp only [classify, h.top, h.control, one_ne_zero, if_false, if_true]

theorem classify_of_isAddr {x : Codeword} (h : IsAddr x) (fromUnit : Bool) :
    classify fromUnit x = classifyCat0 fromUnit x := by
  simp only [classify, h.top, h.control, h.cat, one_ne_zero, if_false]

theorem classify_of_isSam {x : Codeword} (h : IsSam x) (fromUnit : Bool) :
    classify fromUnit x = .ok (.samis (slice x 46 27) (slice x 19 0)) := by
  simp only [classify, h.top, h.control, h.cat, h.desc, one_ne_zero, if_false, if_true]

theorem classify_of_isType3 {x : Codeword} {func : Nat} (h : IsType3 func x) (fromUnit : Bool) :
    classify fromUnit x = classifyType3 x := by
  simp only [classify_of_isAddr h.addr, classifyCat0, h.type]

/-- `IDENT2` as the opcode map reads it (R67). -/
theorem slice_addrWord_ident2 (pfix ident1 type func ident2 : Nat) (low : BitVec 5) :
    slice (addrWord pfix ident1 type func (ident2Param ident2 low)) 17 5 = mask 13 ident2 :=
  ident2Of_addrWord pfix ident1 type func ident2 low

/-! ### Broadcasts and their views (R68, R155 d) -/

/-- A broadcast word is read as the view its `SYSDEF` names, or raw. -/
theorem classifyBcast_bcastWord {sysdef p15 p18 : Nat} (hwf : (Instr.bcast sysdef p15 p18).wf = true) :
    classifyBcast (bcastWord sysdef p15 p18) = canonical (.bcast sysdef p15 p18) := by
  simp only [Instr.wf, Variant.wf, Bool.and_eq_true] at hwf
  obtain ⟨⟨hsysdef, hp15⟩, hp18⟩ := hwf
  have hlt : p18 < 2 ^ 18 := of_decide_eq_true hp18
  simp (disch := decide) only [classifyBcast, slice_bcastWord, slice_bcastWord_param, mask_of_fits hsysdef,
    mask_of_fits hp15, mask_of_fits hp18, canonical]
  -- The fields of `P18` by the view, or the raw broadcast.
  split <;> simp <;> omega

theorem decodeRequest_bcast {sysdef p15 p18 : Nat} (hwf : (Instr.bcast sysdef p15 p18).wf = true) :
    decodeRequest (encodeRequest (.bcast sysdef p15 p18)) = .ok (canonical (.bcast sysdef p15 p18)) := by
  have h := bcastWord_isType3 sysdef p15 p18
  simp only [encodeRequest, decodeRequest_sentRequest, encode, classify_of_isType3 h, classifyType3, h.func,
    classifyBcast_bcastWord hwf]

/-- The `P18` of BCAST_ANN and BCAST_WDR as a number (R147, R148). -/
theorem chanParam_eq (chan spare rsvd : Nat) :
    chanParam chan spare rsvd = mask 10 chan * 2 ^ 8 + mask 2 spare * 2 ^ 6 + mask 6 rsvd := by
  simp only [chanParam, append_toNat_add, field_toNat]; omega

/-- The `P18` of BCAST_MAINT as a number (R149). -/
theorem maintParam_eq (per ival pon ident rsvd spare : Nat) : maintParam per ival pon ident rsvd spare =
    mask 1 per * 2 ^ 17 + mask 5 ival * 2 ^ 12 + mask 1 pon * 2 ^ 11 + mask 1 ident * 2 ^ 10 + mask 2 rsvd * 2 ^ 8
      + mask 8 spare := by
  simp only [maintParam, append_toNat_add, field_toNat]; omega

/-- The `P18` of BCAST_REG as a number (R150). -/
theorem regParam_eq (rsvd spare : Nat) : regParam rsvd spare = mask 4 rsvd * 2 ^ 14 + mask 14 spare := by
  simp only [regParam, append_toNat_add, field_toNat]

/-- The `P18` of BCAST_ADJ and BCAST_VOTE as a number (R151, R152). -/
theorem siteParam_eq (chan spare rsvd adjsite : Nat) : siteParam chan spare rsvd adjsite =
    mask 10 chan * 2 ^ 8 + mask 2 spare * 2 ^ 6 + mask 2 rsvd * 2 ^ 4 + mask 4 adjsite := by
  simp only [siteParam, append_toNat_add, field_toNat]; omega

/-- The raw broadcast that a view abbreviates (R147 to R152); every other instruction is itself. -/
def rawBroadcast : Instr → Instr
  | .bcastAnn sys chan spare rsvd => .bcast 0 sys (chanParam chan spare rsvd)
  | .bcastWdr sys chan spare rsvd => .bcast 1 sys (chanParam chan spare rsvd)
  | .bcastMaint sys per ival pon ident rsvd spare => .bcast 2 sys (maintParam per ival pon ident rsvd spare)
  | .bcastReg sys rsvd spare => .bcast 3 sys (regParam rsvd spare)
  | .bcastAdj sys chan spare rsvd adjsite => .bcast 4 sys (siteParam chan spare rsvd adjsite)
  | .bcastVote sys chan spare rsvd adjsite => .bcast 5 sys (siteParam chan spare rsvd adjsite)
  | i => i

/-- A view is carried by the request of its raw broadcast. -/
theorem encodeRequest_rawBroadcast (i : Instr) : encodeRequest (rawBroadcast i) = encodeRequest i := by
  cases i <;> rfl

theorem rawBroadcast_wf {i : Instr} (hwf : i.wf = true) : (rawBroadcast i).wf = true := by
  have hp18 : ∀ p : BitVec 18, fits 18 p.toNat = true := fun p => decide_eq_true p.isLt
  cases i
  case bcastAnn | bcastWdr | bcastMaint | bcastReg | bcastAdj | bcastVote =>
    simp only [Instr.wf, Bool.and_eq_true] at hwf
    simp only [rawBroadcast, Instr.wf, Variant.wf, hwf, Bool.and_eq_true]
    exact ⟨⟨rfl, trivial⟩, hp18 _⟩
  all_goals exact hwf

/-- The raw broadcast of a view is named by it again. -/
theorem canonical_rawBroadcast {i : Instr} (hwf : i.wf = true) : canonical (rawBroadcast i) = canonical i := by
  cases i
  case bcastAnn | bcastWdr | bcastMaint | bcastReg | bcastAdj | bcastVote =>
    simp only [Instr.wf, Bool.and_eq_true] at hwf
    simp only [rawBroadcast, canonical, chanParam_eq, maintParam_eq, regParam_eq, siteParam_eq, mask_of_fits, hwf]
    simp only [fits, decide_eq_true_eq] at hwf
    simp only [Instr.bcastAnn.injEq, Instr.bcastWdr.injEq, Instr.bcastMaint.injEq, Instr.bcastReg.injEq,
      Instr.bcastAdj.injEq, Instr.bcastVote.injEq, true_and]
    omega
  all_goals rfl

/-! ### The instruction from its request -/

/-- A transaction by its operand words, and the marker by its kind. -/
theorem decodeRequest_of_no_row {i : Instr} (hrow : rowVariant i = none) :
    decodeRequest (encodeRequest i) = .ok (canonical i) := by
  cases i
  case traffic | nop | start | stop | txTick | rxTick | identDone | fcs | dec | reset => rfl
  case enqCC it => exact congrArg (withOperand 3#4 · Instr.enqCC) (itemOfWords_wordsOfItem it)
  case enqTC it => exact congrArg (withOperand 4#4 · Instr.enqTC) (itemOfWords_wordsOfItem it)
  case setIdent p => exact congrArg (withOperand 5#4 · Instr.setIdent) (payloadOfWords_wordsOfPayload p)
  case enc v => exact congrArg (withOperand 10#4 · Instr.enc) (variantOfWords_wordsOfVariant v)
  all_goals cases hrow

/-- A codeword row by the fixed bits and the fields of its word. -/
theorem decodeRequest_of_row {i : Instr} {v : Variant} (hrow : rowVariant i = some v) (hwf : i.wf = true) :
    decodeRequest (encodeRequest i) = .ok (canonical i) := by
  cases i
  case traffic | nop | start | stop | enqCC | enqTC | setIdent | txTick | rxTick | identDone | fcs | enc | dec | reset =>
    cases hrow
  -- Broadcasts, a view by its raw broadcast.
  case bcast => exact decodeRequest_bcast hwf
  case bcastAnn | bcastWdr | bcastMaint | bcastReg | bcastAdj | bcastVote =>
    rw [← encodeRequest_rawBroadcast, ← canonical_rawBroadcast hwf]
    exact decodeRequest_bcast (rawBroadcast_wf hwf)
  all_goals simp only [Instr.wf, Variant.wf, fitsAlh, fitsAck, fitsAddr, Bool.and_eq_true] at hwf
  -- The formats SYNC, GTC, SAM and CLEAR.
  case ccsc | dcsc =>
    rw [encodeRequest, decodeRequest_sentRequest, encode, classify_syncCW, field_toNat, mask_of_fits hwf]
    rfl
  case gtc =>
    rw [encodeRequest, decodeRequest_sentRequest, encode, classify_of_isGtc (gtcWord_isGtc ..)]
    simp only [classifyGtc, slice_gtcWord, mask_of_fits, hwf, canonical]
  case samis =>
    rw [encodeRequest, heardRequest, decodeRequest, encode, classify_of_isSam (samisWord_isSam ..)]
    simp only [slice_samisWord, mask_of_fits, hwf, canonical]
  case clear chan cont rsvd spare =>
    have h := clearWord_isType3 chan cont rsvd spare
    rw [encodeRequest, decodeRequest_sentRequest, encode, classify_of_isType3 h, classifyType3]
    simp only [h.func, slice_clearWord, if_true, mask_of_fits, hwf, canonical]
  -- Format ADDR, by `TYPE`, which every row has fixed, and then by `FUNC`.
  case alh | alhs | alhd | alhe | alhr | alhx | alhf =>
    rw [encodeRequest, decodeRequest_sentRequest, encode, alhWord, classify_of_isAddr (addrWord_isAddr ..),
      classifyCat0, slice_addrWord_type, classifyAlh]
    simp only [slice_addrWord_func, slice_addrWord_pfix, slice_addrWord_ident1, slice_addrWord_alh, mask_of_fits, hwf]
    rfl
  case ack | acki | ackq | ackx | ackv | acke | ackt | ackb =>
    rw [encodeRequest, decodeRequest_sentRequest, encode, ackWord, classify_of_isAddr (addrWord_isAddr ..),
      classifyCat0, slice_addrWord_type, classifyAck]
    simp only [slice_addrWord_func, slice_addrWord_pfix, slice_addrWord_ident1, slice_addrWord_ident2,
      slice_addrWord_qualN, mask_of_fits, hwf]
    rfl
  case ahy | ahyx | ahyq | ahyc =>
    rw [encodeRequest, decodeRequest_sentRequest, encode, type2Word, classify_of_isAddr (addrWord_isAddr ..),
      classifyCat0, slice_addrWord_type, classifyType2]
    simp only [slice_addrWord_func, slice_addrWord_pfix, slice_addrWord_ident1, slice_addrWord_ident2,
      slice_addrWord_flags5, slice_addrWord_field5, slice_addrWord_slotsDesc, mask_of_fits, hwf]
    rfl
  case rqs | rqx | rqt | rqe | rqq | rqc =>
    rw [encodeRequest, heardRequest, decodeRequest, encode, type2Word, classify_of_isAddr (addrWord_isAddr ..),
      classifyCat0, slice_addrWord_type, classifyType2]
    simp only [slice_addrWord_func, slice_addrWord_pfix, slice_addrWord_ident1, slice_addrWord_ident2,
      slice_addrWord_flags5, slice_addrWord_field5, slice_addrWord_twoAndFlags, mask_of_fits, hwf]
    rfl
  case rqr =>
    rw [encodeRequest, heardRequest, decodeRequest, encode, classify_of_isAddr (addrWord_isAddr ..), classifyCat0,
      slice_addrWord_type, classifyType2]
    simp only [slice_addrWord_func, slice_addrWord_pfix, slice_addrWord_ident1, slice_addrWord_infoRsvd, mask_of_fits,
      hwf]
    rfl
  case maint | move =>
    rw [encodeRequest, decodeRequest_sentRequest, encode, classify_of_isType3 (addrWord_isType3 ..), classifyType3]
    simp only [slice_addrWord_func, slice_addrWord_pfix, slice_addrWord_ident1, slice_addrWord_maint,
      slice_addrWord_move, mask_of_fits, hwf]
    rfl

/-- Settles O4: a codeword row by its word, everything else by its operand words. -/
theorem decodeOfEncodeIsTheInstruction : Obligations.DecodeOfEncodeIsTheInstruction := by
  unfold Obligations.DecodeOfEncodeIsTheInstruction
  intro i hwf
  cases hrow : rowVariant i with
  | none => exact decodeRequest_of_no_row hrow
  | some v => exact decodeRequest_of_row hrow hwf

end Sys2Proof.Machine
end

section
/-! PROOF. The FCS by its table and its parity (R91, R92), and the completion sequence by its own (R96): both are affine over
GF(2), so their values at 0 and at the single bits say what they are. -/

namespace Sys2Proof.Machine

open Sys2Proof.Spec

/-! ### The exclusive or of table entries (R92 b, R96) -/

/-- The exclusive or of the entries of a table where the bits of a word are set is affine in the word. -/
theorem xorWhere_affine {n : Nat} (table : List (BitVec 16)) (k : Nat) :
    Affine fun x : BitVec n => xorWhere x.getLsbD k table := by
  induction table generalizing k with
  | nil => exact Affine.const 0
  | cons entry rest ih =>
    have hentry : Affine fun x : BitVec n => if x.getLsbD k then entry else 0 := fun a b => by
      simp only [BitVec.getLsbD_xor, BitVec.getLsbD_zero]
      cases a.getLsbD k <;> cases b.getLsbD k <;> simp
    exact hentry.xor (ih (k + 1))

/-- Only the bits that have an entry count. -/
theorem xorWhere_congr {p q : Nat → Bool} (table : List (BitVec 16)) (k : Nat)
    (h : ∀ i < k + table.length, p i = q i) : xorWhere p k table = xorWhere q k table := by
  induction table generalizing k with
  | nil => rfl
  | cons entry rest ih =>
    have hrest : ∀ i < k + 1 + rest.length, p i = q i := fun i hi => h i (by rw [List.length_cons]; omega)
    rw [xorWhere, xorWhere, h k (by rw [List.length_cons]; omega), ih (k + 1) hrest]

/-! ### The FCS by its table (R92 b) -/

theorem fcs_zero : fcs 0#48 = 0x0003 := by decide +kernel

/-- The FCS is `0x0003` and the entries `T[k]` of the set bits. -/
theorem fcs_eq_xorWhere (cw : Codeword) : fcs cw = 0x0003 ^^^ xorWhere cw.getLsbD 0 fcsTable := by
  have hbit : ∀ i < 48, fcs (BitVec.twoPow 48 i) = 0x0003 ^^^ xorWhere (BitVec.twoPow 48 i).getLsbD 0 fcsTable := by
    decide +kernel
  exact fcs_affine.ext ((Affine.const 0x0003).xor (xorWhere_affine fcsTable 0)) (by decide +kernel) hbit cw

/-- Settles O8: `fcs_affine` with the value at 0, and the table. -/
theorem fcsIsAffineWithTheTable : Obligations.FcsIsAffineWithTheTable := by
  unfold Obligations.FcsIsAffineWithTheTable
  refine ⟨fun a b => ?affine, fcs_eq_xorWhere⟩
  case affine => rw [fcs_affine a b, fcs_zero]

/-- Settles O31: FCS by definition, its value by the table, which has an entry for each of the 48 bits. -/
theorem fcsTransaction : Obligations.FcsTransaction := by
  unfold Obligations.FcsTransaction
  refine fun s v => ⟨fcs (mask48 v), rfl, rfl, ?value⟩
  case value =>
    rw [fcs_eq_xorWhere]
    refine congrArg _ (xorWhere_congr fcsTable 0 fun i hi => ?_)
    have hlt : i < 48 := by simpa [fcsTable] using hi
    rw [mask48, BitVec.getLsbD_ofNat, decide_eq_true hlt, Bool.true_and]

/-! ### Even parity over the frame (R91 e, R92 c) -/

/-- The exclusive or of `p 0` to `p (n - 1)`. -/
def xorBelow (p : Nat → Bool) (n : Nat) : Bool := (List.range n).foldl (fun acc k => acc ^^ p k) false

theorem xorBelow_succ (p : Nat → Bool) (n : Nat) : xorBelow p (n + 1) = (xorBelow p n ^^ p n) := by
  simp only [xorBelow, List.range_succ, List.foldl_append, List.foldl_cons, List.foldl_nil]

/-- The lowest term taken out. -/
theorem xorBelow_succ_shift (p : Nat → Bool) (n : Nat) :
    xorBelow p (n + 1) = (p 0 ^^ xorBelow (fun k => p (k + 1)) n) := by
  induction n with
  | zero => simp [xorBelow]
  | succ n ih => rw [xorBelow_succ, ih, xorBelow_succ, Bool.xor_assoc]

theorem parityOf_eq_xorBelow (ck : Check) (n : Nat) : parityOf ck n = xorBelow ck.getLsbD n := by
  induction n with
  | zero => rfl
  | succ n ih => rw [parityOf, ih, xorBelow_succ, Bool.xor_comm]

/-- The engine's parity register takes every input bit (R91 a). -/
theorem fcsRun_par (cw : Codeword) (n : Nat) (r : FcsRegs) : (fcsRun cw n r).par = (r.par ^^ xorBelow cw.getLsbD n) := by
  induction n generalizing r with
  | zero => simp [fcsRun, xorBelow]
  | succ n ih => rw [fcsRun, ih, fcsStep, xorBelow_succ, Bool.xor_assoc, Bool.xor_comm (cw.getLsbD n)]

theorem fcsUpper_getLsbD_zero (cw : Codeword) : (fcsUpper cw).getLsbD 0 = false := by simp [fcsUpper, fcsMask]

/-- Above bit 0 the FCS is the check register. -/
theorem fcs_getLsbD_succ (cw : Codeword) (k : Nat) : (fcs cw).getLsbD (k + 1) = (fcsUpper cw).getLsbD (k + 1) := by
  rw [fcs_eq_xor, BitVec.getLsbD_xor, BitVec.getLsbD_setWidth, BitVec.getLsbD_of_ge (fcsParity cw) (k + 1) (by omega),
    Bool.and_false, Bool.xor_false]

/-- Bit 0 of the FCS is the final parity bit. -/
theorem fcs_getLsbD_zero (cw : Codeword) :
    (fcs cw).getLsbD 0 = (xorBelow cw.getLsbD 48 ^^ xorBelow (fcsUpper cw).getLsbD 16) := by
  have hpar : (fcsRun cw 48 fcsInit).par = xorBelow cw.getLsbD 48 := by rw [fcsRun_par, fcsInit, Bool.false_xor]
  rw [fcs_eq_xor, BitVec.getLsbD_xor, fcsUpper_getLsbD_zero, fcsParity, hpar, parityOf_eq_xorBelow,
    BitVec.ofBool_xor_ofBool]
  simp

/-- Settles O9: the final parity bit makes the parity of the frame even, and the check register has bit 0 clear. -/
theorem frameHasEvenParity : Obligations.FrameHasEvenParity := by
  unfold Obligations.FrameHasEvenParity
  intro cw
  have hupper : xorBelow (fcsUpper cw).getLsbD 16 = xorBelow (fun k => (fcs cw).getLsbD (k + 1)) 15 := by
    simp only [xorBelow_succ_shift _ 15, fcsUpper_getLsbD_zero, Bool.false_xor, fcs_getLsbD_succ]
  exact (fcs_getLsbD_zero cw).trans (congrArg _ hupper)

/-! ### The synchronisation words and the completion sequence (R93 to R96) -/

/-- Settles O10: `fcs_syncCW` for the two families. -/
theorem syncCodewordsHaveTheirSyncWord : Obligations.SyncCodewordsHaveTheirSyncWord := by
  unfold Obligations.SyncCodewordsHaveTheirSyncWord
  exact ⟨fun s => fcs_syncCW s .ccsc, fun s => fcs_syncCW s .dcsc⟩

/-- The completion sequence stands in bits 31 to 16 of the codeword. -/
theorem completion_eq_extract (s : BitVec 15) (fam : SyncFamily) :
    completion s fam = (syncCW s fam).extractLsb' 16 16 := by
  apply BitVec.eq_of_toNat_eq
  have hlt := (completion s fam).isLt
  rw [BitVec.extractLsb'_toNat, syncCW_toNat, Nat.shiftRight_eq_div_pow]
  omega

/-- The completion sequence is `BASE[fam]` and the entries `B[k]` of the set bits (R96). -/
theorem completion_eq_xorWhere (s : BitVec 15) (fam : SyncFamily) :
    completion s fam = completionBase fam ^^^ xorWhere s.getLsbD 0 completionTable := by
  have haffine : Affine fun s => completion s fam := by
    simp only [completion_eq_extract]
    exact (syncCW_affine fam).extract 16 16
  have hzero : completion 0#15 fam = completionBase fam ^^^ xorWhere (0#15).getLsbD 0 completionTable := by
    cases fam <;> decide +kernel
  have hbit : ∀ i < 15, completion (BitVec.twoPow 15 i) fam =
      completionBase fam ^^^ xorWhere (BitVec.twoPow 15 i).getLsbD 0 completionTable := by
    cases fam <;> decide +kernel
  exact haffine.ext ((Affine.const _).xor (xorWhere_affine completionTable 0)) hzero hbit s

/-- Bits in the place of the completion sequence, and none elsewhere (R61). -/
def inCompletion (d : BitVec 16) : Codeword := 0#1 ++ 0#15 ++ d ++ 0#16

/-- Entry `k` is what to change in the completion sequence to change bit `k` of the FCS, and no other bit of it. -/
def completionForCheckBit : List (BitVec 16) :=
  [0xE815, 0x3929, 0x7252, 0xE4A4, 0xF177, 0xDAD1, 0x8D9D, 0x2305, 0x460A, 0x8C14, 0x2017, 0x402E, 0x805C, 0x3887,
   0x710E, 0xE21C]

/-- A change of the completion sequence is known from the change of the FCS. -/
theorem completion_change_from_fcs (d : BitVec 16) :
    xorWhere (fcs (inCompletion d) ^^^ fcs 0#48).getLsbD 0 completionForCheckBit = d := by
  have hplace : Affine inCompletion := (((Affine.const 0#1).append (.const 0#15)).append Affine.id).append (.const 0#16)
  have hchange : Affine fun d => fcs (inCompletion d) ^^^ fcs 0#48 := (fcs_affine.comp hplace).xor (.const _)
  exact ((xorWhere_affine completionForCheckBit 0).comp hchange).ext Affine.id (by decide +kernel) (by decide +kernel) d

/-- Two completion sequences that give one FCS are the same. -/
theorem completion_injective {s : BitVec 15} {c c' : BitVec 16}
    (h : fcs (0#1 ++ s ++ c ++ preamble) = fcs (0#1 ++ s ++ c' ++ preamble)) : c = c' := by
  have hdiff : (0#1 ++ s ++ c ++ preamble) ^^^ (0#1 ++ s ++ c' ++ preamble) = inCompletion (c ^^^ c') := by
    rw [BitVec.xor_append, BitVec.xor_append, BitVec.xor_self, BitVec.xor_self]
    rfl
  have hfcs : fcs (inCompletion (c ^^^ c')) = fcs 0#48 := by
    rw [← hdiff, fcs_affine, h, BitVec.xor_self, BitVec.zero_xor]
  have hzero := completion_change_from_fcs (c ^^^ c')
  rw [hfcs, BitVec.xor_self] at hzero
  exact BitVec.xor_eq_zero_iff.mp (hzero.symm.trans (by decide))

/-- Settles O11: the completion sequence gives the synchronisation word, and no other gives it too. -/
theorem completionIsUniqueWithClosedForm : Obligations.CompletionIsUniqueWithClosedForm := by
  unfold Obligations.CompletionIsUniqueWithClosedForm
  refine fun s fam => ⟨fun ccs => ⟨fun h => ?unique, ?gives⟩, completion_eq_xorWhere s fam⟩
  case unique => exact completion_injective (h.trans (fcs_syncCW s fam).symm)
  case gives =>
    rintro rfl
    exact fcs_syncCW s fam

end Sys2Proof.Machine
end

section
/-! PROOF. The step and the requests it refuses (R47, R70, R72), the two enqueues (R194, R195) and `Apply` (R200). -/

namespace Sys2Proof.Machine

open Sys2Proof.Spec

/-! ### The step (R47, R70) -/

theorem step_of_empty {s : State} (h : s.inbox = []) : step s = .next s := by rw [step, h]

theorem step_of_decoded {s : State} {r : Request} {rest : List Request} {i : Instr} (hinbox : s.inbox = r :: rest)
    (hdecode : decodeRequest r = .ok i) : step s = exec i { s with inbox := rest } := by
  simp only [step, hinbox, hdecode]

theorem step_of_undecodable {s : State} {r : Request} {rest : List Request} {why : Reject}
    (hinbox : s.inbox = r :: rest) (hdecode : decodeRequest r = .error why) :
    step s = .refused (.undecodable why) := by
  simp only [step, hinbox, hdecode]

/-- Settles O1: the three cases of `step`. -/
theorem stepRunsTheDecodedTransaction : Obligations.StepRunsTheDecodedTransaction := by
  unfold Obligations.StepRunsTheDecodedTransaction
  exact ⟨fun _ _ _ _ => step_of_decoded, fun _ _ _ _ => step_of_undecodable, fun _ => step_of_empty⟩

/-- Settles O2: each word is written out, and is read by evaluation. -/
theorem wordsOfEachFamilyDecode : Obligations.WordsOfEachFamilyDecode := by
  unfold Obligations.WordsOfEachFamilyDecode
  decide +kernel

/-- Codes 13 to 15 are reserved, whatever the operands (R72). -/
theorem decodeTransaction_reserved {code : BitVec 4} (h : 13 ≤ code.toNat) (ws : List Nat) :
    decodeTransaction code ws = .error (.reservedTransaction code) := by
  unfold decodeTransaction
  split
  case h_14 => rfl
  all_goals omega

/-- `TxOut` kind 3 is reserved, whatever the data (R75). -/
theorem decodeSlot_reserved (data : Codeword) : decodeSlot (3#2 ++ data) = .error .reservedTxOutKind := by
  rw [decodeSlot, slot_kind]
  rfl

/-- Settles O3: the step refuses what the decoder refuses. -/
theorem reservedRequestsAreRefused : Obligations.ReservedRequestsAreRefused := by
  unfold Obligations.ReservedRequestsAreRefused
  exact ⟨fun _ _ ws _ hinbox hcode => step_of_undecodable hinbox (decodeTransaction_reserved hcode ws),
    fun _ data _ hinbox => step_of_undecodable hinbox (decodeSlot_reserved data)⟩

/-! ### The enqueues (R194, R195, R53, R73) -/

theorem queueFull_iff {c : Config} {q : List TxItem} :
    queueFull c q = true ↔ ∃ d, c.qdepth = some d ∧ d ≤ q.length := by
  unfold queueFull
  cases c.qdepth <;> simp

theorem queueFull_of_unbounded {c : Config} (h : c.qdepth = none) (q : List TxItem) : queueFull c q = false := by
  rw [queueFull, h]

/-- An item that cannot be carried is refused, full queue or not (R73; log 13). -/
theorem accept_of_not_representable {c : Config} {it : ItemOperand} (h : it.representable c = false)
    (q : List TxItem) : accept c q it = .error .itemNotRepresentable := by
  simp only [accept, h, Bool.false_eq_true, if_false]

theorem accept_of_full {c : Config} {q : List TxItem} {it : ItemOperand} (hrep : it.representable c = true)
    (hfull : queueFull c q = true) : accept c q it = .error .queueFull := by
  simp only [accept, hrep, hfull, if_true]

/-- Settles O29: an accepted item is pushed at the tail. -/
theorem enqueueAppendsAtTheTail : Obligations.EnqueueAppendsAtTheTail := by
  unfold Obligations.EnqueueAppendsAtTheTail
  exact fun s it hrep =>
    ⟨fun hroom => conclude_next.mpr (State.pushCC_ok (s := s.begin) |>.mpr ⟨hrep, hroom, rfl⟩),
      fun hroom => conclude_next.mpr (State.pushTC_ok (s := s.begin) |>.mpr ⟨hrep, hroom, rfl⟩)⟩

theorem exec_enqCC_of_refused {s : State} {it : ItemOperand} {r : Refusal} (h : accept s.cfg s.ccq it = .error r) :
    exec (.enqCC it) s = .refused r := by
  change conclude (s.begin.pushCC it) = _
  rw [State.pushCC, State.begin_cfg, State.begin_ccq, h, conclude]

theorem exec_enqTC_of_refused {s : State} {it : ItemOperand} {r : Refusal} (h : accept s.cfg s.tcq it = .error r) :
    exec (.enqTC it) s = .refused r := by
  change conclude (s.begin.pushTC it) = _
  rw [State.pushTC, State.begin_cfg, State.begin_tcq, h, conclude]

/-- Settles O30: the two refusals of `accept`, and when a queue is full. -/
theorem enqueueRefusals : Obligations.EnqueueRefusals := by
  unfold Obligations.EnqueueRefusals
  refine ⟨fun s it hrep => ⟨?_, ?_⟩, fun s it hrep => ⟨fun hfull => ?_, fun hfull => ?_⟩, fun _ _ => queueFull_iff⟩
  · exact exec_enqCC_of_refused (accept_of_not_representable hrep s.ccq)
  · exact exec_enqTC_of_refused (accept_of_not_representable hrep s.tcq)
  · exact exec_enqCC_of_refused (accept_of_full hrep hfull)
  · exact exec_enqTC_of_refused (accept_of_full hrep hfull)

/-! ### `Apply` (R200) -/

/-- One legal operation on unbounded queues is done. -/
theorem applyOp_of_legal {s : State} {op : Instr} (hunbounded : s.cfg.qdepth = none)
    (hpermitted : opPermitted op = true) (hlegal : operandLegal s.cfg op = true) :
    applyOp s op = .ok (s.applied [op]) := by
  cases op
  case enqCC it =>
    have happlied : s.applied [.enqCC it] = { s with ccq := s.ccq ++ [it.toItem] } := by
      simp only [State.applied, controlItems, trafficItems, identAfter, List.append_nil]
    exact State.pushCC_ok.mpr ⟨hlegal, queueFull_of_unbounded hunbounded _, happlied⟩
  case enqTC it =>
    have happlied : s.applied [.enqTC it] = { s with tcq := s.tcq ++ [it.toItem] } := by
      simp only [State.applied, controlItems, trafficItems, identAfter, List.append_nil]
    exact State.pushTC_ok.mpr ⟨hlegal, queueFull_of_unbounded hunbounded _, happlied⟩
  case setIdent p =>
    simp only [applyOp, State.setIdent, State.applied, controlItems, trafficItems, identAfter, List.append_nil]
  all_goals cases hpermitted

/-- Operations applied one after the other leave what the whole list leaves. -/
theorem State.applied_applied (s : State) (a b : List Instr) : (s.applied a).applied b = s.applied (a ++ b) := by
  simp only [State.applied, controlItems_append, trafficItems_append, identAfter_append, List.append_assoc]

theorem opsLegal_cons {c : Config} {op : Instr} {rest : List Instr} : opsLegal c (op :: rest) = true ↔
    (opPermitted op = true ∧ operandLegal c op = true) ∧ opsLegal c rest = true := by
  simp only [opsLegal, List.all_cons, Bool.and_eq_true]

/-- Legal operations on unbounded queues are all done. -/
theorem applyOps_of_legal {s : State} {ops : List Instr} (hunbounded : s.cfg.qdepth = none)
    (hlegal : opsLegal s.cfg ops = true) : applyOps s ops = .ok (s.applied ops) := by
  induction ops generalizing s with
  | nil => simp only [applyOps, State.applied, controlItems, trafficItems, identAfter, List.append_nil]
  | cons op rest ih =>
    obtain ⟨⟨hpermitted, hoperand⟩, hrest⟩ := opsLegal_cons.mp hlegal
    have hdone := ih (s := s.applied [op]) hunbounded hrest
    rw [State.applied_applied, List.singleton_append] at hdone
    simpa only [applyOps, applyOp_of_legal hunbounded hpermitted hoperand] using hdone

/-- Settles O36: `applyOps_of_legal`, and `applyOps_refused` for the others. -/
theorem applyPerformsTheOperationsInOrder : Obligations.ApplyPerformsTheOperationsInOrder := by
  unfold Obligations.ApplyPerformsTheOperationsInOrder
  exact ⟨fun _ _ => applyOps_of_legal, fun s _ h => applyOps_refused h s⟩

/-- Operations that were accepted are all permitted. -/
theorem Accepted.all_permitted {s : State} {ops : List Instr} (h : Accepted s ops) :
    ¬ ∃ op ∈ ops, opPermitted op = false := fun ⟨op, hmem, hnot⟩ => by
  have hlegal := List.all_eq_true.mp h.legal op hmem
  rw [hnot, Bool.false_and] at hlegal
  cases hlegal

/-! ### Answers that refuse their tick (R200, R212, R283) -/

/-- A tick that answers no next state is refused. -/
theorem conclude_refused {r : Except Refusal State} (h : ∀ t, r ≠ .ok t) : ∃ why, conclude r = .refused why := by
  cases r with
  | error why => exact ⟨why, rfl⟩
  | ok t => exact absurd rfl (h t)

/-- What step 3 counts down, where no completion is pending (R213). -/
theorem State.step2_rxc (s : State) : s.step2.rxc = countedCollector s := by
  rw [State.step2_eq]
  rfl

/-- Settles O37: had the tick an outcome, the answer would have been accepted. -/
theorem illegalAnswersAreRefused : Obligations.IllegalAnswersAreRefused := by
  unfold Obligations.IllegalAnswersAreRefused
  refine ⟨fun s t hrun hpending hillegal => ?completion, fun s c hrun hpending hcounted hlast hen hillegal => ?timeout,
    fun s v hrun hevent hillegal => ?received⟩
  case completion =>
    rw [exec_txTick_of_running hrun]
    refine conclude_refused fun u htick => ?_
    obtain ⟨hoverride, haccepted⟩ := (State.tick_ok htick).2.1 (by simp [hpending])
    obtain hop | hstate := hillegal
    · exact haccepted.all_permitted hop
    · exact absurd (hoverride.symm.trans hstate) (by decide)
  case timeout =>
    rw [exec_txTick_of_running hrun]
    refine conclude_refused fun u htick => ?_
    have hstep1 : s.begin.afterStep1 = s.begin := by rw [State.afterStep1, State.begin_txcPending, hpending]
    have haccepted := (State.tick_ok htick).2.2 c
    rw [hstep1, State.step2_rxc] at haccepted
    have hanswer : s.begin.step2.nextAnswer = s.nextAnswer := by rw [State.step2_eq]; rfl
    exact (haccepted hcounted hlast.le hen).all_permitted (hanswer ▸ hillegal)
  case received =>
    obtain ⟨c, hrxc, hlast, hen⟩ | ⟨hrxc, d, hrec, henc⟩ := hevent
    · rw [exec_rxTick_of_collector hrun hrxc]
      exact conclude_refused fun u hu => ((State.collect_ok hu).2 hlast.le hen).all_permitted hillegal
    · rw [exec_rxTick_of_free hrun hrxc]
      refine conclude_refused fun u hu => ?_
      have hdecode : decode (mask48 v) = some (masked d) := (congrArg decode henc).symm.trans (decode_encode hrec)
      obtain ⟨hnone, -⟩ | ⟨_, -, haccepted, -⟩ := State.forward_ok hu
      · exact Option.some_ne_none _ (hdecode.symm.trans hnone)
      · exact haccepted.all_permitted hillegal

end Sys2Proof.Machine
end

section
/-! PROOF. Three ticks of a quiet block (R217, R219, R220), and what an instruction does, once: an answer and nothing else, one
register written, or a tick. -/

namespace Sys2Proof.Machine

open Sys2Proof.Spec

/-! ### Ticks of a quiet block -/

/-- The `N` field of the idle invitation (R77, R114). -/
theorem slice_idleAlh (c : Config) (n : Nat) : slice (idleAlh c n) 3 0 = mask 4 n := by
  rw [idleAlh, alhWord]
  exact (slice_addrWord_alh ..).2.2.2.2

/-- Reading B: the old counter is sent, 0 refills to 5, everything else is decremented (R217, D9). -/
theorem alohaB_get (af : Fin 6) :
    (alohaB.get af).2 = af ∧ (alohaB.get af).1.val = if af.val = 0 then 5 else af.val - 1 := by
  revert af; decide

/-- Settles O43: the row of the idle invitation, and the table of reading B. -/
theorem idleInvitationCountsByReadingB : Obligations.IdleInvitationCountsByReadingB := by
  unfold Obligations.IdleInvitationCountsByReadingB
  intro s hquiet hs hrsv hq hreading
  have hstep : s.begin.alohaStep = alohaB.get s.af := by rw [State.alohaStep, State.begin_cfg, hreading, State.begin_af]
  obtain ⟨hsent, hcounter⟩ := alohaB_get s.af
  refine ⟨_, idleAlh s.cfg s.begin.alohaStep.2.val, exec_txTick_of_quiet hquiet, ?result, ?field, ?counter⟩
  case result => exact congrArg State.result (State.step4_close_idle (s := s.begin) hs hrsv hq)
  case field =>
    have hrange : s.af.val < 2 ^ 4 := s.af.isLt.trans (by decide)
    rw [slice_idleAlh, hstep, hsent, mask_of_fits (decide_eq_true hrange)]
  case counter =>
    rw [State.step4_close_idle (s := s.begin) hs hrsv hq, hstep]
    exact hcounter

/-- Settles O46: the fault's row of state 3, then the silent row of state 2. -/
theorem trafficUnderflowIsTakenAndLeft : Obligations.TrafficUnderflowIsTakenAndLeft := by
  unfold Obligations.TrafficUnderflowIsTakenAndLeft
  intro s hquiet hs hq
  refine ⟨_, ?faulted, rfl, ?next⟩
  case faulted =>
    rw [exec_txTick_of_quiet hquiet, State.step4_close_underflow (s := s.begin) hs hq]
    rfl
  case next =>
    have hfaulted : { s with state := .trafficQuiescent, result := .slot .none, events := [.fault .tx 1] }.Quiet :=
      ⟨hquiet.running, hquiet.txcPending, hquiet.rxcNext, hquiet.rxc⟩
    exact (exec_txTick_of_quiet hfaulted).trans (congrArg _ (State.step4_close_silence rfl hq))

/-- Settles O47: the row of state 4. -/
theorem stateFourWaits : Obligations.StateFourWaits := by
  unfold Obligations.StateFourWaits
  intro s hquiet hs
  rw [exec_txTick_of_quiet hquiet, State.step4_close_waits (s := s.begin) hs]
  rfl

/-! ### What an instruction does -/

/-- The instructions that only answer: the codeword rows, the marker, NOP, FCS, ENC and DEC. -/
def onlyAnswers : Instr → Bool
  | .start | .stop | .enqCC _ | .enqTC _ | .setIdent _ | .txTick | .rxTick _ | .identDone | .reset => false
  | _ => true

/-- What an instruction that is not refused does to `s`, by kind. -/
inductive Effect (s : State) : Instr → State → Prop
  | answer (i : Instr) (r : Result) (h : onlyAnswers i = true) : Effect s i (s.finish r)
  | start : Effect s .start { s.begin with running := true }
  | stop : Effect s .stop { s.begin with running := false }
  | enqCC (it : ItemOperand) (hrep : it.representable s.cfg = true) (hroom : queueFull s.cfg s.ccq = false) :
    Effect s (.enqCC it) { s.begin with ccq := s.ccq ++ [it.toItem] }
  | enqTC (it : ItemOperand) (hrep : it.representable s.cfg = true) (hroom : queueFull s.cfg s.tcq = false) :
    Effect s (.enqTC it) { s.begin with tcq := s.tcq ++ [it.toItem] }
  | setIdent (p : Payload) : Effect s (.setIdent p) (s.begin.setIdent p)
  | identDone : Effect s .identDone { s.begin with state := .beginFrame }
  | reset : Effect s .reset s.begin.resetRegisters
  | gatedTx (hstop : s.running = false) : Effect s .txTick (s.finish (.slot .none))
  | tick (hrun : s.running = true) (h : s.begin.tick = .ok s.seenByStep4.step4.close) :
    Effect s .txTick s.seenByStep4.step4.close
  | gatedRx (v : Nat) (hstop : s.running = false) : Effect s (.rxTick v) s.begin
  | collected (v : Nat) (c : Collector) (hrun : s.running = true) (hrxc : s.rxc = some c)
    (h : s.begin.collect c (mask48 v) = .ok (s.begin.collected c (mask48 v))) :
    Effect s (.rxTick v) (s.begin.collected c (mask48 v))
  | forwarded (v : Nat) (t : State) (hrun : s.running = true) (hrxc : s.rxc = none)
    (h : s.begin.forward (mask48 v) = .ok t) : Effect s (.rxTick v) t

/-- Everything `exec` can do. -/
theorem exec_effect {i : Instr} {s t : State} (h : exec i s = .next t) : Effect s i t := by
  cases i
  case start => cases h; exact .start
  case stop => cases h; exact .stop
  case enqCC it =>
    obtain ⟨hrep, hroom, rfl⟩ := State.pushCC_ok.mp (conclude_next.mp h)
    exact .enqCC it hrep hroom
  case enqTC it =>
    obtain ⟨hrep, hroom, rfl⟩ := State.pushTC_ok.mp (conclude_next.mp h)
    exact .enqTC it hrep hroom
  case setIdent p => cases h; exact .setIdent p
  case identDone => cases h; exact .identDone
  case reset => cases h; exact .reset
  case txTick =>
    obtain ⟨hrun, htick⟩ | ⟨hstop, rfl⟩ := execTxTick_next.mp h
    · obtain rfl : t = s.seenByStep4.step4.close := (State.tick_ok htick).1
      exact .tick hrun htick
    · exact .gatedTx hstop
  case rxTick v =>
    obtain ⟨hrun, ⟨c, hrxc, hc⟩ | ⟨hrxc, hf⟩⟩ | ⟨hstop, rfl⟩ := execRxTick_next.mp h
    · obtain ⟨rfl, -⟩ := State.collect_ok hc
      exact .collected v c hrun hrxc hc
    · exact .forwarded v t hrun hrxc hf
    · exact .gatedRx v hstop
  -- Every other instruction answers outright.
  all_goals
    obtain rfl := Host.Outcome.next.inj h
    exact .answer _ _ rfl

/-- A tick of a running block that is not refused is steps 4 and 5 of what steps 1 to 3 leave. -/
theorem exec_txTick_running {s t : State} (hrun : s.running = true) (h : exec .txTick s = .next t) :
    t = s.seenByStep4.step4.close := by
  obtain ⟨-, htick⟩ | ⟨hstop, -⟩ := execTxTick_next.mp h
  · exact (State.tick_ok htick).1
  · exact absurd hrun (by simp [hstop])

/-! ### What neither tick writes -/

/-- From `s` to `t` nothing is written but by the answers' operations and in the slot of the collector. -/
structure State.FrameOfAnswers (s t : State) : Prop where
  cfg : t.cfg = s.cfg
  inbox : t.inbox = s.inbox
  running : t.running = s.running
  af : t.af = s.af
  rsv : t.rsv = s.rsv
  lastTx : t.lastTx = s.lastTx

theorem State.FrameOfAnswers.refl (s : State) : s.FrameOfAnswers s := ⟨rfl, rfl, rfl, rfl, rfl, rfl⟩

theorem State.FrameOfAnswers.trans {s t u : State} (hst : s.FrameOfAnswers t) (htu : t.FrameOfAnswers u) :
    s.FrameOfAnswers u :=
  ⟨htu.cfg.trans hst.cfg, htu.inbox.trans hst.inbox, htu.running.trans hst.running, htu.af.trans hst.af,
    htu.rsv.trans hst.rsv, htu.lastTx.trans hst.lastTx⟩

theorem State.afterStep1_frame (s : State) : s.FrameOfAnswers s.afterStep1 := by
  unfold State.afterStep1
  split <;> exact ⟨rfl, rfl, rfl, rfl, rfl, rfl⟩

theorem State.step2_frame (s : State) : s.FrameOfAnswers s.step2 := by
  rw [State.step2_eq]
  exact ⟨rfl, rfl, rfl, rfl, rfl, rfl⟩

theorem State.afterStep3_frame (s : State) : s.FrameOfAnswers s.afterStep3 := by
  unfold State.afterStep3
  split
  · exact .refl s
  · split
    · split <;> exact ⟨rfl, rfl, rfl, rfl, rfl, rfl⟩
    · exact ⟨rfl, rfl, rfl, rfl, rfl, rfl⟩

theorem State.seenByStep4_frame (s : State) : s.FrameOfAnswers s.seenByStep4 :=
  have hbegin : s.FrameOfAnswers s.begin := ⟨rfl, rfl, rfl, rfl, rfl, rfl⟩
  hbegin.trans <| s.begin.afterStep1_frame.trans <|
    s.begin.afterStep1.step2_frame.trans s.begin.afterStep1.step2.afterStep3_frame

theorem State.collected_frame (s : State) (c : Collector) (cw : Codeword) : s.FrameOfAnswers (s.collected c cw) := by
  unfold State.collected
  split
  · split <;> exact ⟨rfl, rfl, rfl, rfl, rfl, rfl⟩
  · exact ⟨rfl, rfl, rfl, rfl, rfl, rfl⟩

theorem State.forward_frame {s t : State} {cw : Codeword} (h : s.forward cw = .ok t) : s.FrameOfAnswers t := by
  obtain ⟨-, rfl⟩ | ⟨_, -, -, rfl⟩ := State.forward_ok h <;> exact ⟨rfl, rfl, rfl, rfl, rfl, rfl⟩

end Sys2Proof.Machine
end

section
/-! PROOF. The legal host (R253, R282): its answers complete every tick, each step takes from what it has still to say and adds
nothing, so that it stays legal along runs of any length. -/

namespace Sys2Proof.Machine

open Sys2Proof.Spec

/-! ### What the host has still to say -/

/-- From `s` to `t` the configuration stays and the host's transactions and answers to come are a rest of what they were. -/
structure State.HostAhead (s t : State) : Prop where
  cfg : t.cfg = s.cfg
  inbox : t.inbox = s.inbox
  txcAnswers : t.txcAnswers <:+ s.txcAnswers
  answers : t.answers <:+ s.answers

theorem State.HostAhead.of_eq {s t : State} (hcfg : t.cfg = s.cfg) (hinbox : t.inbox = s.inbox)
    (htxc : t.txcAnswers = s.txcAnswers) (hans : t.answers = s.answers) : s.HostAhead t :=
  ⟨hcfg, hinbox, htxc ▸ List.suffix_rfl, hans ▸ List.suffix_rfl⟩

theorem State.HostAhead.trans {s t u : State} (hst : s.HostAhead t) (htu : t.HostAhead u) : s.HostAhead u :=
  ⟨htu.cfg.trans hst.cfg, htu.inbox.trans hst.inbox, htu.txcAnswers.trans hst.txcAnswers, htu.answers.trans hst.answers⟩

theorem State.afterStep1_hostAhead (s : State) : s.HostAhead s.afterStep1 := by
  unfold State.afterStep1
  split
  · exact .of_eq rfl rfl rfl rfl
  · exact ⟨rfl, rfl, List.tail_suffix _, List.suffix_rfl⟩

theorem State.step2_hostAhead (s : State) : s.HostAhead s.step2 := by
  rw [State.step2_eq]
  exact .of_eq rfl rfl rfl rfl

theorem State.afterStep3_hostAhead (s : State) : s.HostAhead s.afterStep3 := by
  unfold State.afterStep3
  split
  · exact .of_eq rfl rfl rfl rfl
  · split
    · split
      · exact ⟨rfl, rfl, List.suffix_rfl, List.tail_suffix _⟩
      · exact .of_eq rfl rfl rfl rfl
    · exact .of_eq rfl rfl rfl rfl

theorem State.seenByStep4_hostAhead (s : State) : s.HostAhead s.seenByStep4 :=
  have hbegin : s.HostAhead s.begin := .of_eq rfl rfl rfl rfl
  hbegin.trans <| s.begin.afterStep1_hostAhead.trans <|
    s.begin.afterStep1.step2_hostAhead.trans s.begin.afterStep1.step2.afterStep3_hostAhead

theorem State.step4_close_hostAhead (s : State) : s.HostAhead s.step4.close := by
  rcases s.step4_close_cases with
    ⟨_, -, -, -, hc⟩ | ⟨-, -, hc⟩ | ⟨-, -, hc⟩ | ⟨_, _, -, -, -, hc⟩ | ⟨-, -, -, hc⟩ | ⟨-, -, hc⟩ | ⟨-, -, hc⟩ |
    ⟨_, _, -, -, hc⟩ | ⟨-, -, hc⟩ | ⟨-, hc⟩ <;> rw [hc] <;> exact .of_eq rfl rfl rfl rfl

theorem State.collected_hostAhead (s : State) (c : Collector) (cw : Codeword) : s.HostAhead (s.collected c cw) := by
  unfold State.collected
  split
  · split
    · exact ⟨rfl, rfl, List.suffix_rfl, List.tail_suffix _⟩
    · exact .of_eq rfl rfl rfl rfl
  · exact .of_eq rfl rfl rfl rfl

theorem State.forward_hostAhead {s t : State} {cw : Codeword} (h : s.forward cw = .ok t) : s.HostAhead t := by
  obtain ⟨-, rfl⟩ | ⟨_, -, -, rfl⟩ := State.forward_ok h
  · exact .of_eq rfl rfl rfl rfl
  · exact ⟨rfl, rfl, List.suffix_rfl, List.tail_suffix _⟩

/-- No instruction adds to what the host has still to say. -/
theorem exec_hostAhead {i : Instr} {s t : State} (h : exec i s = .next t) : s.HostAhead t := by
  have hbegin : s.HostAhead s.begin := .of_eq rfl rfl rfl rfl
  cases exec_effect h
  case tick => exact s.seenByStep4_hostAhead.trans s.seenByStep4.step4_close_hostAhead
  case collected v c _ _ _ => exact hbegin.trans (s.begin.collected_hostAhead c _)
  case forwarded hf => exact hbegin.trans (State.forward_hostAhead hf)
  all_goals exact .of_eq rfl rfl rfl rfl

/-! ### A legal host stays legal -/

theorem State.AnswersLegal.of_ahead {s t : State} (hs : s.AnswersLegal) (h : s.HostAhead t) : t.AnswersLegal where
  unbounded := h.cfg ▸ hs.unbounded
  txc a ha := h.cfg ▸ hs.txc a (h.txcAnswers.subset ha)
  other ops hops := h.cfg ▸ hs.other ops (h.answers.subset hops)

theorem State.HostLegal.of_ahead {s t : State} (hs : s.HostLegal) (h : s.HostAhead t) : t.HostLegal where
  answers := hs.answers.of_ahead h
  inbox r hr := h.cfg ▸ hs.inbox r (h.inbox ▸ hr)

/-- The next answer to `EV_TXC` is legal, said or not. -/
theorem State.AnswersLegal.nextTxcAnswer {s : State} (h : s.AnswersLegal) :
    opsLegal s.cfg s.nextTxcAnswer.ops = true ∧ overrideLegal s.nextTxcAnswer.newState = true := by
  unfold State.nextTxcAnswer
  cases hq : s.txcAnswers with
  | nil => exact ⟨rfl, rfl⟩
  | cons a rest => exact h.txc a (hq ▸ List.mem_cons_self)

/-- The next answer to `EV_RXC` or `EV_RXFWD` is legal, said or not. -/
theorem State.AnswersLegal.nextAnswer {s : State} (h : s.AnswersLegal) : opsLegal s.cfg s.nextAnswer = true := by
  unfold State.nextAnswer
  cases hq : s.answers with
  | nil => rfl
  | cons ops rest => exact h.other ops (hq ▸ List.mem_cons_self)

/-! ### The ticks complete -/

theorem State.call_completes {s : State} (h : s.AnswersLegal) (e : Event) : ∃ t, s.call e = .ok t :=
  ⟨_, applyOps_of_legal (s := { s.emit e with answers := s.answers.tail }) h.unbounded h.nextAnswer⟩

theorem State.override_completes {o : Option (BitVec 3)} (h : overrideLegal o = true) (s : State) :
    ∃ t, s.override o = .ok t := by
  cases o with
  | none => exact ⟨s, rfl⟩
  | some b =>
    have hnamed : ∀ b : BitVec 3, overrideLegal (some b) = true → (SeqState.ofCode b).isSome = true := by decide
    obtain ⟨st, hst⟩ := Option.isSome_iff_exists.mp (hnamed b h)
    exact ⟨_, by rw [State.override, hst]⟩

theorem State.step1_completes {s : State} (h : s.AnswersLegal) : ∃ t, s.step1 = .ok t := by
  cases hpending : s.txcPending with
  | none => exact ⟨s, State.step1_of_none hpending⟩
  | some tag =>
    obtain ⟨hops, hoverride⟩ := h.nextTxcAnswer
    rw [State.step1_of_applied hpending (applyOps_of_legal h.unbounded hops)]
    exact State.override_completes hoverride _

theorem State.step3_completes {s : State} (h : s.AnswersLegal) : ∃ t, s.step3 = .ok t := by
  cases hrxc : s.rxc with
  | none => exact ⟨s, State.step3_of_none hrxc⟩
  | some c =>
    obtain hc | hc : 2 ≤ c.countdown ∨ c.countdown ≤ 1 := by omega
    · exact ⟨_, State.step3_of_counting hrxc hc⟩
    · cases hen : c.en with
      | false => exact ⟨_, State.step3_of_silent hrxc hc hen⟩
      | true =>
        rw [State.step3_of_timeout hrxc hc hen]
        exact State.call_completes (s := { s with rxc := none }) (h.of_ahead (.of_eq rfl rfl rfl rfl)) _

theorem State.tick_completes {s : State} (h : s.AnswersLegal) : ∃ t, s.tick = .ok t := by
  obtain ⟨s1, h1⟩ := State.step1_completes h
  obtain ⟨rfl, -⟩ := State.step1_ok h1
  obtain ⟨s3, h3⟩ := State.step3_completes (h.of_ahead (s.afterStep1_hostAhead.trans s.afterStep1.step2_hostAhead))
  exact ⟨s3.step4.close, by simp only [State.tick, h1, h3]⟩

theorem State.collect_completes {s : State} (h : s.AnswersLegal) (c : Collector) (cw : Codeword) :
    ∃ t, s.collect c cw = .ok t := by
  unfold State.collect
  dsimp only
  split
  · split
    · exact State.call_completes (s := { s with rxc := none }) (h.of_ahead (.of_eq rfl rfl rfl rfl)) _
    · exact ⟨_, rfl⟩
  · exact ⟨_, rfl⟩

theorem State.forward_completes {s : State} (h : s.AnswersLegal) (cw : Codeword) : ∃ t, s.forward cw = .ok t := by
  cases hd : decode cw with
  | none => exact ⟨s, State.forward_of_dropped hd s⟩
  | some d =>
    rw [State.forward_of_decoded hd]
    exact State.call_completes h _

theorem exec_txTick_completes {s : State} (h : s.AnswersLegal) : ∃ t, exec .txTick s = .next t := by
  cases hrun : s.running with
  | false => exact ⟨_, execTxTick_next.mpr (.inr ⟨hrun, rfl⟩)⟩
  | true =>
    obtain ⟨t, ht⟩ := State.tick_completes (s := s.begin) (h.of_ahead (.of_eq rfl rfl rfl rfl))
    exact ⟨t, execTxTick_next.mpr (.inl ⟨hrun, ht⟩)⟩

theorem exec_rxTick_completes {s : State} (h : s.AnswersLegal) (v : Nat) : ∃ t, exec (.rxTick v) s = .next t := by
  have hbegin : s.begin.AnswersLegal := h.of_ahead (.of_eq rfl rfl rfl rfl)
  cases hrun : s.running with
  | false => exact ⟨_, execRxTick_next.mpr (.inr ⟨hrun, rfl⟩)⟩
  | true =>
    cases hrxc : s.rxc with
    | none =>
      obtain ⟨t, ht⟩ := State.forward_completes hbegin (mask48 v)
      exact ⟨t, execRxTick_next.mpr (.inl ⟨hrun, .inr ⟨hrxc, ht⟩⟩)⟩
    | some c =>
      obtain ⟨t, ht⟩ := State.collect_completes hbegin c (mask48 v)
      exact ⟨t, execRxTick_next.mpr (.inl ⟨hrun, .inl ⟨c, hrxc, ht⟩⟩)⟩

/-- Settles O50: both ticks complete, running or not. -/
theorem ticksCompleteForLegalAnswers : Obligations.TicksCompleteForLegalAnswers := by
  unfold Obligations.TicksCompleteForLegalAnswers
  exact fun s v _ h => ⟨exec_txTick_completes h, exec_rxTick_completes h v⟩

/-! ### Runs of any length -/

/-- A legal instruction completes: only the ticks and the enqueues can be refused. -/
theorem exec_completes {s : State} (h : s.AnswersLegal) {i : Instr} (hi : operandLegal s.cfg i = true) :
    ∃ t, exec i s = .next t := by
  cases i
  case enqCC it =>
    exact ⟨_, conclude_next.mpr (State.pushCC_ok (s := s.begin) |>.mpr ⟨hi, queueFull_of_unbounded h.unbounded _, rfl⟩)⟩
  case enqTC it =>
    exact ⟨_, conclude_next.mpr (State.pushTC_ok (s := s.begin) |>.mpr ⟨hi, queueFull_of_unbounded h.unbounded _, rfl⟩)⟩
  case txTick => exact exec_txTick_completes h
  case rxTick v => exact exec_rxTick_completes h v
  all_goals exact ⟨_, rfl⟩

/-- A step with a legal host completes and leaves a legal host. -/
theorem step_of_hostLegal {s : State} (h : s.HostLegal) : ∃ t, step s = .next t ∧ t.HostLegal := by
  cases hinbox : s.inbox with
  | nil => exact ⟨s, step_of_empty hinbox, h⟩
  | cons r rest =>
    obtain ⟨i, hdecode, hi⟩ := h.inbox r (hinbox ▸ List.mem_cons_self)
    have htaken : State.HostLegal { s with inbox := rest } :=
      ⟨⟨h.answers.unbounded, h.answers.txc, h.answers.other⟩,
        fun r' hr' => h.inbox r' (hinbox ▸ List.mem_cons_of_mem r hr')⟩
    obtain ⟨t, ht⟩ := exec_completes htaken.answers hi
    exact ⟨t, (step_of_decoded hinbox hdecode).trans ht, htaken.of_ahead (exec_hostAhead ht)⟩

/-- A run begins with its first step. -/
theorem run_of_step {s u : State} (h : step s = .next u) (k : Nat) :
    Host.Core.run core (k + 1) s = Host.Core.run core k u := by
  have hcore : core.step s = .next u := h
  simp only [Host.Core.run, hcore]

/-- Settles O51, by induction on the length of the run. -/
theorem legalHostNeverStopsTheBlock : Obligations.LegalHostNeverStopsTheBlock := by
  unfold Obligations.LegalHostNeverStopsTheBlock
  intro s h k
  induction k generalizing s with
  | zero => exact ⟨s, rfl, h⟩
  | succ k ih =>
    obtain ⟨u, hstep, hu⟩ := step_of_hostLegal h
    obtain ⟨t, hrun, ht⟩ := ih u hu
    exact ⟨t, (run_of_step hstep k).trans hrun, ht⟩

end Sys2Proof.Machine
end

section
/-! PROOF. The invariant of R29 holds at reset and is kept by every step: by the operations of an answer, by each step of the
transmit tick, by both paths of the receive tick. -/

namespace Sys2Proof.Machine

open Sys2Proof.Spec

/-! ### At reset -/

theorem State.powerOn_inv (c : Config) : (State.powerOn c).Inv where
  outstanding _ h := by cases h
  staged _ h := by cases h
  reservation := Nat.zero_le _
  pendingTag _ h := by cases h
  controlItems _ h := by cases h
  trafficItems _ h := by cases h
  depth _ _ := ⟨Nat.zero_le _, Nat.zero_le _⟩

/-- Settles O52: nothing is queued, pending or outstanding, and the host has said nothing. -/
theorem resetMeetsTheInvariant : Obligations.ResetMeetsTheInvariant := by
  unfold Obligations.ResetMeetsTheInvariant
  refine ⟨State.powerOn_inv referenceConfig, ⟨⟨rfl, ?txc, ?other⟩, ?inbox⟩⟩
  all_goals
    intro _ h
    cases h

/-! ### The queues -/

theorem toItem_fits {it : ItemOperand} {c : Config} (h : it.representable c = true) : TxItem.Fits c it.toItem := by
  obtain ⟨hrlen, htxc, hrxc⟩ := representable_iff.mp h
  exact ⟨hrlen, htxc, hrxc⟩

/-- The items of legal operations can be carried. -/
theorem items_fit_of_opsLegal {c : Config} {ops : List Instr} (h : opsLegal c ops = true) :
    (∀ it ∈ controlItems ops, TxItem.Fits c it) ∧ (∀ it ∈ trafficItems ops, TxItem.Fits c it) := by
  induction ops with
  | nil => exact ⟨fun _ h => absurd h List.not_mem_nil, fun _ h => absurd h List.not_mem_nil⟩
  | cons op rest ih =>
    obtain ⟨⟨hpermitted, hlegal⟩, hrest⟩ := opsLegal_cons.mp h
    obtain ⟨hcontrol, htraffic⟩ := ih hrest
    cases op
    case enqCC it => exact ⟨List.forall_mem_cons.mpr ⟨toItem_fits hlegal, hcontrol⟩, htraffic⟩
    case enqTC it => exact ⟨hcontrol, List.forall_mem_cons.mpr ⟨toItem_fits hlegal, htraffic⟩⟩
    case setIdent => exact ⟨hcontrol, htraffic⟩
    all_goals cases hpermitted

/-- A queue within its depth stays so where the items that fit are appended, or none. -/
theorem length_append_le {q new : List TxItem} {d : Nat} (hq : q.length ≤ d)
    (hnew : new ≠ [] → q.length + new.length ≤ d) : (q ++ new).length ≤ d := by
  cases new with
  | nil => rwa [List.append_nil]
  | cons it rest => exact List.length_append ▸ hnew (List.cons_ne_nil it rest)

/-- Accepted operations keep the invariant (R200). -/
theorem State.Inv.applied {s : State} (h : s.Inv) {ops : List Instr} (ha : Accepted s ops) : (s.applied ops).Inv where
  outstanding := h.outstanding
  staged := h.staged
  reservation := h.reservation
  pendingTag := h.pendingTag
  controlItems it hit := (List.mem_append.mp hit).elim (h.controlItems it) ((items_fit_of_opsLegal ha.legal).1 it)
  trafficItems it hit := (List.mem_append.mp hit).elim (h.trafficItems it) ((items_fit_of_opsLegal ha.legal).2 it)
  depth d hd := ⟨length_append_le (h.depth d hd).1 (ha.depthCC d hd), length_append_le (h.depth d hd).2 (ha.depthTC d hd)⟩

/-! ### The slots -/

/-- The invariant speaks of these registers, slots and queues alone. -/
theorem State.Inv.of_eq {s t : State} (h : s.Inv) (hcfg : t.cfg = s.cfg) (hrxc : t.rxc = s.rxc)
    (hnext : t.rxcNext = s.rxcNext) (hrsv : t.rsv = s.rsv) (htxc : t.txcPending = s.txcPending) (hcc : t.ccq = s.ccq)
    (htc : t.tcq = s.tcq) : t.Inv := by
  obtain ⟨h1, h2, h3, h4, h5, h6, h7⟩ := h
  constructor <;> simpa only [hcfg, hrxc, hnext, hrsv, htxc, hcc, htc]

theorem State.Inv.begin {s : State} (h : s.Inv) : s.begin.Inv := h.of_eq rfl rfl rfl rfl rfl rfl rfl

/-- A collector put in the slot, or none. -/
theorem State.Inv.withRxc {s : State} (h : s.Inv) {k : Option Collector}
    (hk : ∀ c, k = some c → Collector.Live s.cfg c) : State.Inv { s with rxc := k } :=
  ⟨hk, h.staged, h.reservation, h.pendingTag, h.controlItems, h.trafficItems, h.depth⟩

theorem State.Inv.clearRxc {s : State} (h : s.Inv) : State.Inv { s with rxc := none } :=
  h.withRxc fun _ hc => nomatch hc

theorem State.Inv.clearTxc {s : State} (h : s.Inv) : State.Inv { s with txcPending := none } :=
  ⟨h.outstanding, h.staged, h.reservation, (fun _ ht => nomatch ht), h.controlItems, h.trafficItems, h.depth⟩

/-- A staged collector that is armed counts down from its whole window (R213). -/
theorem Collector.Staged.live {c : Config} {k : Collector} (h : k.Staged c) : k.Live c where
  remaining := h.remaining
  counting := by rw [h.full]; decide
  window := h.full.le
  length := by rw [h.fresh, List.length_nil, Nat.zero_add]; exact h.length
  tag := h.tag

/-- A collector with a tick left of its countdown (R214). -/
theorem Collector.Live.countDown {c : Config} {k : Collector} (h : k.Live c) (hleft : ¬ k.countdown ≤ 1) :
    Collector.Live c { k with countdown := k.countdown - 1 } where
  remaining := h.remaining
  counting := by dsimp only; omega
  window := (Nat.sub_le _ _).trans h.window
  length := h.length
  tag := h.tag

/-- A collector fed a word that is not its last (R242). -/
theorem Collector.Live.feed {c : Config} {k : Collector} (h : k.Live c) (hmore : ¬ k.remaining ≤ 1) (cw : Codeword) :
    Collector.Live c { k with acc := k.acc ++ [cw], countdown := rxcTimeout, remaining := k.remaining - 1 } where
  remaining := by dsimp only; omega
  counting := (by decide : 1 ≤ rxcTimeout)
  window := le_rfl
  length := by
    have := h.length
    simp only [List.length_append, List.length_singleton]
    omega
  tag := h.tag

/-! ### The receive tick -/

theorem State.Inv.collected {s : State} (h : s.Inv) {c : Collector} (hrxc : s.rxc = some c) (cw : Codeword)
    (ha : c.remaining ≤ 1 → c.en = true → Accepted s s.nextAnswer) : (s.collected c cw).Inv := by
  unfold State.collected
  split
  case isTrue hlast =>
    split
    case isTrue hen => exact ((h.applied (ha hlast hen)).clearRxc).of_eq rfl rfl rfl rfl rfl rfl rfl
    case isFalse => exact h.clearRxc
  case isFalse hmore =>
    refine h.withRxc fun k hk => ?_
    obtain rfl := Option.some.inj hk
    exact (h.outstanding c hrxc).feed hmore cw

theorem State.Inv.forward {s t : State} (h : s.Inv) {cw : Codeword} (hf : s.forward cw = .ok t) : t.Inv := by
  obtain ⟨-, rfl⟩ | ⟨_, -, ha, rfl⟩ := State.forward_ok hf
  · exact h
  · exact (h.applied ha).of_eq rfl rfl rfl rfl rfl rfl rfl

/-! ### The transmit tick -/

theorem State.Inv.afterStep1 {s : State} (h : s.Inv) (ha : s.txcPending ≠ none → Accepted s s.nextTxcAnswer.ops) :
    s.afterStep1.Inv := by
  unfold State.afterStep1
  split
  case h_1 => exact h
  case h_2 tag hpending =>
    have haccepted := ha (by rw [hpending]; exact Option.some_ne_none tag)
    exact (h.applied haccepted).clearTxc.of_eq rfl rfl rfl rfl rfl rfl rfl

theorem State.Inv.step2 {s : State} (h : s.Inv) : s.step2.Inv := by
  rw [State.step2_eq]
  refine ⟨fun k hk => ?_, (fun _ hk => nomatch hk), h.reservation, h.pendingTag, h.controlItems, h.trafficItems, h.depth⟩
  obtain hstaged | ⟨-, hout⟩ := Option.or_eq_some_iff.mp hk
  · exact (h.staged k hstaged).1.live
  · exact h.outstanding k hout

theorem State.Inv.afterStep3 {s : State} (h : s.Inv)
    (ha : ∀ c, s.rxc = some c → c.countdown ≤ 1 → c.en = true → Accepted s s.nextAnswer) : s.afterStep3.Inv := by
  unfold State.afterStep3
  split
  case h_1 => exact h
  case h_2 c hrxc =>
    split
    case isTrue hlast =>
      split
      case isTrue hen => exact (h.applied (ha c hrxc hlast hen)).clearRxc.of_eq rfl rfl rfl rfl rfl rfl rfl
      case isFalse => exact h.clearRxc
    case isFalse hleft =>
      refine h.withRxc fun k hk => ?_
      obtain rfl := Option.some.inj hk
      exact (h.outstanding c hrxc).countDown hleft

/-- What steps 1 to 3 of a tick that is not refused leave meets the invariant. -/
theorem State.Inv.seenByStep4 {s t : State} (h : s.Inv) (htick : s.begin.tick = .ok t) : s.seenByStep4.Inv := by
  obtain ⟨-, h1, h3⟩ := State.tick_ok htick
  exact (h.begin.afterStep1 fun hp => (h1 hp).2).step2.afterStep3 h3

@[simp] theorem State.afterStep3_rxcNext (s : State) : s.afterStep3.rxcNext = s.rxcNext := by
  unfold State.afterStep3
  split
  · rfl
  · split
    · split <;> rfl
    · rfl

@[simp] theorem State.afterStep3_txcPending (s : State) : s.afterStep3.txcPending = s.txcPending := by
  unfold State.afterStep3
  split
  · rfl
  · split
    · split <;> rfl
    · rfl

/-- Step 4 sees nothing staged: step 2 has armed it (R213). -/
theorem State.seenByStep4_rxcNext (s : State) : s.seenByStep4.rxcNext = none := by
  rw [State.seenByStep4, State.afterStep3_rxcNext, State.step2_eq]

/-- Step 4 sees no completion pending: step 1 has invoked it (R212). -/
theorem State.seenByStep4_txcPending (s : State) : s.seenByStep4.txcPending = none := by
  rw [State.seenByStep4, State.afterStep3_txcPending, State.step2_eq]
  unfold State.afterStep1
  split
  case h_1 hpending => exact hpending
  case h_2 => rfl

/-- Where nothing is staged the counter of the reservation may go down (R216). -/
theorem State.Inv.withRsv {s : State} (h : s.Inv) (hnext : s.rxcNext = none) {n : Nat} (hn : n ≤ s.rsv) :
    State.Inv { s with rsv := n } :=
  ⟨h.outstanding, (fun _ hk => nomatch hnext.symm.trans hk), hn.trans h.reservation, h.pendingTag, h.controlItems,
    h.trafficItems, h.depth⟩

/-- The queues after their heads have left. -/
theorem State.Inv.withQueues {s : State} (h : s.Inv) {ccq tcq : List TxItem} (hcc : ccq <:+ s.ccq)
    (htc : tcq <:+ s.tcq) :
    State.Inv { s with ccq := ccq, tcq := tcq } :=
  ⟨h.outstanding, h.staged, h.reservation, h.pendingTag, fun it hit => h.controlItems it (hcc.subset hit),
    fun it hit => h.trafficItems it (htc.subset hit),
    fun d hd => ⟨hcc.length_le.trans (h.depth d hd).1, htc.length_le.trans (h.depth d hd).2⟩⟩

/-- A sent item's completions are installed (R221). -/
theorem State.Inv.withCompletionsOf {s : State} (h : s.Inv) (hnext : s.rxcNext = none) {it : TxItem}
    (hit : it.Fits s.cfg) : (withCompletionsOf it s).Inv where
  outstanding := h.outstanding
  staged k hk := by
    simp only [Spec.withCompletionsOf, hnext] at hk
    split at hk
    case isTrue hlen =>
      obtain rfl := Option.some.inj hk
      exact ⟨⟨rfl, rfl, hlen, hit.reply, hit.rxcTag⟩, if_pos hlen⟩
    case isFalse => cases hk
  reservation := by
    simp only [Spec.withCompletionsOf]
    split
    · exact hit.reply
    · exact h.reservation
  pendingTag t ht := by
    simp only [Spec.withCompletionsOf] at ht
    split at ht
    · exact Option.some.inj ht ▸ hit.txcTag
    · cases ht
  controlItems := h.controlItems
  trafficItems := h.trafficItems
  depth := h.depth

/-- Steps 4 and 5 keep the invariant where nothing is staged. -/
theorem State.Inv.step4_close {s : State} (h : s.Inv) (hnext : s.rxcNext = none) : s.step4.close.Inv := by
  rcases s.step4_close_cases with
    ⟨_, -, -, -, hc⟩ | ⟨-, -, hc⟩ | ⟨-, -, hc⟩ | ⟨it, rest, -, -, hq, hc⟩ | ⟨-, -, -, hc⟩ | ⟨-, -, hc⟩ | ⟨-, -, hc⟩ |
    ⟨it, rest, -, hq, hc⟩ | ⟨-, -, hc⟩ | ⟨-, hc⟩ <;> rw [hc]
  -- State 1: the filler, an item of the control queue, the idle invitation.
  case inr.inr.inl => exact (h.withRsv hnext (Nat.sub_le s.rsv 1)).of_eq rfl rfl rfl rfl rfl rfl rfl
  case inr.inr.inr.inl =>
    have hrest : rest <:+ s.ccq := hq ▸ List.suffix_cons it rest
    have hfits : it.Fits s.cfg := h.controlItems it (hq ▸ List.mem_cons_self)
    have hpopped := ((h.withRsv hnext (Nat.zero_le _)).withQueues hrest List.suffix_rfl).withCompletionsOf hnext hfits
    exact hpopped.of_eq rfl rfl rfl rfl rfl rfl rfl
  case inr.inr.inr.inr.inl => exact (h.withRsv hnext (Nat.zero_le _)).of_eq rfl rfl rfl rfl rfl rfl rfl
  -- State 3 with an item of the traffic queue.
  case inr.inr.inr.inr.inr.inr.inr.inl =>
    have hrest : rest <:+ s.tcq := hq ▸ List.suffix_cons it rest
    have hfits : it.Fits s.cfg := h.trafficItems it (hq ▸ List.mem_cons_self)
    exact ((h.withQueues List.suffix_rfl hrest).withCompletionsOf hnext hfits).of_eq rfl rfl rfl rfl rfl rfl rfl
  -- The other six rows write none of the registers of the invariant.
  all_goals exact h.of_eq rfl rfl rfl rfl rfl rfl rfl

/-! ### Every instruction, every step -/

theorem length_concat_le {c : Config} {q : List TxItem} {d : Nat} (hd : c.qdepth = some d)
    (hroom : queueFull c q = false) (it : TxItem) : (q ++ [it]).length ≤ d := by
  have := queueFull_false.mp hroom d hd
  rw [List.length_append, List.length_singleton]
  omega

theorem State.Inv.exec {s t : State} {i : Instr} (h : s.Inv) (hexec : exec i s = .next t) : t.Inv := by
  cases exec_effect hexec
  case enqCC it hrep hroom =>
    refine ⟨h.outstanding, h.staged, h.reservation, h.pendingTag, fun x hx => ?_, h.trafficItems,
      fun d hd => ⟨length_concat_le hd hroom _, (h.depth d hd).2⟩⟩
    exact (List.mem_append.mp hx).elim (h.controlItems x) fun hx => List.mem_singleton.mp hx ▸ toItem_fits hrep
  case enqTC it hrep hroom =>
    refine ⟨h.outstanding, h.staged, h.reservation, h.pendingTag, h.controlItems, fun x hx => ?_,
      fun d hd => ⟨(h.depth d hd).1, length_concat_le hd hroom _⟩⟩
    exact (List.mem_append.mp hx).elim (h.trafficItems x) fun hx => List.mem_singleton.mp hx ▸ toItem_fits hrep
  case reset => exact (State.powerOn_inv s.cfg).of_eq rfl rfl rfl rfl rfl rfl rfl
  case tick _ htick => exact (h.seenByStep4 htick).step4_close s.seenByStep4_rxcNext
  case collected v c _ hrxc hc => exact h.begin.collected hrxc _ (State.collect_ok hc).2
  case forwarded hf => exact h.begin.forward hf
  all_goals exact h.of_eq rfl rfl rfl rfl rfl rfl rfl

/-- Settles O53: the instruction the step decodes keeps the invariant. -/
theorem stepKeepsTheInvariant : Obligations.StepKeepsTheInvariant := by
  unfold Obligations.StepKeepsTheInvariant
  intro s t h hstep
  cases hinbox : s.inbox with
  | nil =>
    rw [step_of_empty hinbox] at hstep
    cases hstep
    exact h
  | cons r rest =>
    have htaken : State.Inv { s with inbox := rest } := h.of_eq rfl rfl rfl rfl rfl rfl rfl
    cases hdecode : decodeRequest r with
    | error why =>
      rw [step_of_undecodable hinbox hdecode] at hstep
      cases hstep
    | ok i =>
      rw [step_of_decoded hinbox hdecode] at hstep
      exact htaken.exec hstep

end Sys2Proof.Machine
end

section
/-! PROOF. Which instruction writes which register (R244), and how the state goes (R223). Of the transmit tick each is said of
steps 4 and 5, and then of the state they see. -/

namespace Sys2Proof.Machine

open Sys2Proof.Spec

/-! ### The writers of each register (R244) -/

/-- Steps 4 and 5 leave the outstanding collector (R213, R214). -/
theorem State.step4_close_rxc (s : State) : s.step4.close.rxc = s.rxc := by
  have hsame : s.step4.close = { s.step4.close with rxc := s.rxc } := s.step4_close_withRxc s.rxc
  rw [hsame]

theorem State.step4_close_running (s : State) : s.step4.close.running = s.running := by
  rcases s.step4_close_cases with
    ⟨_, -, -, -, hc⟩ | ⟨-, -, hc⟩ | ⟨-, -, hc⟩ | ⟨_, _, -, -, -, hc⟩ | ⟨-, -, -, hc⟩ | ⟨-, -, hc⟩ | ⟨-, -, hc⟩ |
    ⟨_, _, -, -, hc⟩ | ⟨-, -, hc⟩ | ⟨-, hc⟩ <;> rw [hc] <;> rfl

/-- From `s` to `t` the state and the two slots that only the transmit tick writes stay. -/
structure State.KeepsTxSlots (s t : State) : Prop where
  state : t.state = s.state
  txcPending : t.txcPending = s.txcPending
  rxcNext : t.rxcNext = s.rxcNext

theorem State.collected_keepsTxSlots (s : State) (c : Collector) (cw : Codeword) :
    s.KeepsTxSlots (s.collected c cw) := by
  unfold State.collected
  split
  · split <;> exact ⟨rfl, rfl, rfl⟩
  · exact ⟨rfl, rfl, rfl⟩

theorem State.forward_keepsTxSlots {s t : State} {cw : Codeword} (h : s.forward cw = .ok t) : s.KeepsTxSlots t := by
  obtain ⟨-, rfl⟩ | ⟨_, -, -, rfl⟩ := State.forward_ok h <;> exact ⟨rfl, rfl, rfl⟩

/-- Settles O55: what each kind of effect leaves as it was. -/
theorem registerWriters : Obligations.RegisterWriters := by
  unfold Obligations.RegisterWriters
  intro i s t h
  cases exec_effect h
  case tick =>
    have hhost := s.seenByStep4_hostAhead.trans s.seenByStep4.step4_close_hostAhead
    have hrunning := s.seenByStep4.step4_close_running.trans s.seenByStep4_frame.running
    simp [hhost.cfg, hhost.inbox, hrunning]
  case collected v c _ _ _ =>
    have hframe := s.begin.collected_frame c (mask48 v)
    have hslots := s.begin.collected_keepsTxSlots c (mask48 v)
    simp [hframe.cfg, hframe.inbox, hframe.running, hframe.af, hframe.rsv, hframe.lastTx, hslots.state,
      hslots.txcPending, hslots.rxcNext]
  case forwarded hf =>
    have hframe := State.forward_frame hf
    have hslots := State.forward_keepsTxSlots hf
    simp [hframe.cfg, hframe.inbox, hframe.running, hframe.af, hframe.rsv, hframe.lastTx, hslots.state,
      hslots.txcPending, hslots.rxcNext]
  all_goals simp

/-! ### The state (R223) -/

/-- Where steps 4 and 5 go from each state. -/
theorem State.step4_close_state (s : State) :
    match s.state with
    | .beginFrame => s.step4.close.state = .controlCodeword ∨ s.step4.close.state = .identInProgress
    | .controlCodeword => s.step4.close.state = .beginFrame
    | .trafficQuiescent => s.step4.close.state = .trafficQuiescent ∨ s.step4.close.state = .trafficCodeword
    | .trafficCodeword => s.step4.close.state = .trafficQuiescent
    | .identInProgress => s.step4.close.state = .identInProgress := by
  rcases s.step4_close_cases with
    ⟨_, hs, -, -, hc⟩ | ⟨hs, -, hc⟩ | ⟨hs, -, hc⟩ | ⟨_, _, hs, -, -, hc⟩ | ⟨hs, -, -, hc⟩ | ⟨hs, -, hc⟩ | ⟨hs, -, hc⟩ |
    ⟨_, _, hs, -, hc⟩ | ⟨hs, -, hc⟩ | ⟨hs, hc⟩ <;> rw [hc, hs] <;> simp [withCompletionsOf]

/-- From state 0 to state 4 exactly where a payload is handed over (R215). -/
theorem State.step4_close_identInProgress_iff {s : State} (hs : s.state = .beginFrame) :
    s.step4.close.state = .identInProgress ↔ s.af = 0 ∧ s.identPending ≠ none := by
  by_cases hover : s.af = 0 ∧ s.identPending ≠ none
  case pos =>
    obtain ⟨p, hp⟩ := Option.ne_none_iff_exists'.mp hover.2
    rw [State.step4_close_handOver hs hp hover.1]
    exact ⟨fun _ => hover, fun _ => rfl⟩
  case neg =>
    have hno : s.identPending = none ∨ s.af ≠ 0 := by
      by_cases haf : s.af = 0
      · exact .inl (by_contra fun hp => hover ⟨haf, hp⟩)
      · exact .inr haf
    rw [State.step4_close_ccsc hs hno]
    exact ⟨fun h => SeqState.noConfusion h, fun h => absurd h hover⟩

/-- From state 2 to state 3 exactly where traffic is queued (R218). -/
theorem State.step4_close_trafficCodeword_iff {s : State} (hs : s.state = .trafficQuiescent) :
    s.step4.close.state = .trafficCodeword ↔ s.tcq ≠ [] := by
  by_cases hq : s.tcq = []
  · rw [State.step4_close_silence hs hq]
    exact ⟨fun h => SeqState.noConfusion (hs.symm.trans h), fun h => absurd hq h⟩
  · rw [State.step4_close_marker hs hq]
    exact ⟨fun _ => hq, fun _ => rfl⟩

/-- Steps 4 and 5 stay in the control pair with the identification, or in the traffic pair (R223). -/
theorem State.step4_close_role (s : State) : isTraffic s.step4.close.state = isTraffic s.state := by
  have h := s.step4_close_state
  cases hs : s.state <;> simp only [hs] at h
  case beginFrame | trafficQuiescent => obtain h | h := h <;> simp only [h, isTraffic]
  all_goals simp only [h, isTraffic]

/-- Without an override the tick dispatches on the register. -/
theorem dispatchState_of_no_override {s : State} (h : s.txcPending = none ∨ s.nextTxcAnswer.newState = none) :
    dispatchState s = s.state := by
  unfold dispatchState
  obtain h | h := h
  · rw [h]
  · rw [h, Option.bind_none]
    cases s.txcPending <;> rfl

/-- Settles O57: a running tick by what step 4 does in the state it dispatches on, everything else by its kind of effect. -/
theorem stateTransfers : Obligations.StateTransfers := by
  unfold Obligations.StateTransfers
  refine ⟨fun s t hrun h => ?byDispatch, fun s t hrun hlive h => ?conditions, fun _ => ⟨_, rfl, rfl⟩,
    fun _ => ⟨_, rfl, rfl⟩, fun i s t h hchanged => ?writers, fun i s t h hrole => ?role⟩
  case byDispatch =>
    rw [exec_txTick_running hrun h, ← State.seenByStep4_state]
    exact s.seenByStep4.step4_close_state
  case conditions =>
    obtain ⟨-, htcq, hident, haf, -⟩ := s.beforeStep4 hlive
    rw [exec_txTick_running hrun h, ← State.seenByStep4_state, ← htcq, ← hident, ← haf]
    exact ⟨State.step4_close_identInProgress_iff, State.step4_close_trafficCodeword_iff⟩
  case writers =>
    cases exec_effect h
    case tick hrun _ => exact .inl ⟨rfl, hrun⟩
    case identDone => exact .inr (.inl rfl)
    case reset => exact .inr (.inr rfl)
    case collected v c _ _ _ => exact absurd (s.begin.collected_keepsTxSlots c _).state hchanged
    case forwarded hf => exact absurd (State.forward_keepsTxSlots hf).state hchanged
    all_goals exact absurd rfl hchanged
  case role =>
    cases exec_effect h
    case tick hrun _ =>
      have hoverride : ¬ (s.txcPending = none ∨ s.nextTxcAnswer.newState = none) := fun hno => hrole (by
        rw [State.step4_close_role, State.seenByStep4_state, dispatchState_of_no_override hno])
      exact .inl ⟨rfl, hrun, fun hp => hoverride (.inl hp), fun hn => hoverride (.inr hn)⟩
    case identDone => exact .inr (.inl rfl)
    case reset => exact .inr (.inr rfl)
    case collected v c _ _ _ => exact absurd (congrArg isTraffic (s.begin.collected_keepsTxSlots c _).state) hrole
    case forwarded hf => exact absurd (congrArg isTraffic (State.forward_keepsTxSlots hf).state) hrole
    all_goals exact absurd rfl hrole

end Sys2Proof.Machine
end

section
/-! PROOF. The events of one transaction (R261), and whose completion and whose collector a tick installs (R212, R221). -/

namespace Sys2Proof.Machine

open Sys2Proof.Spec

/-! ### The events (R261) -/

/-- Steps 4 and 5 raise nothing, or hand the payload over in state 0, or report the fault in state 3. -/
theorem State.step4_close_events (s : State) : ∃ last : List Event, s.step4.close.events = s.events ++ last ∧
    (last = [] ∨ (∃ p, last = [.identStart p] ∧ s.state = .beginFrame) ∨
      (last = [.fault .tx 1] ∧ s.state = .trafficCodeword)) := by
  rcases s.step4_close_cases with
    ⟨p, hs, -, -, hc⟩ | ⟨-, -, hc⟩ | ⟨-, -, hc⟩ | ⟨_, _, -, -, -, hc⟩ | ⟨-, -, -, hc⟩ | ⟨-, -, hc⟩ | ⟨-, -, hc⟩ |
    ⟨_, _, -, -, hc⟩ | ⟨hs, -, hc⟩ | ⟨-, hc⟩ <;> rw [hc]
  case inl => exact ⟨_, rfl, .inr (.inl ⟨p, rfl, hs⟩)⟩
  case inr.inr.inr.inr.inr.inr.inr.inr.inl => exact ⟨_, rfl, .inr (.inr ⟨rfl, hs⟩)⟩
  all_goals exact ⟨[], (List.append_nil _).symm, .inl rfl⟩

/-- The collector path raises nothing, or delivers the collector with the word. -/
theorem State.collected_events (s : State) (c : Collector) (cw : Codeword) : (s.collected c cw).events = s.events ∨
    (s.collected c cw).events = s.events ++ [.rxc c.tag .success (c.acc ++ [cw])] := by
  unfold State.collected
  split
  · split
    · exact .inr rfl
    · exact .inl rfl
  · exact .inl rfl

/-- The decode path raises nothing, or forwards what the word decodes to. -/
theorem State.forward_events {s t : State} {cw : Codeword} (h : s.forward cw = .ok t) :
    t.events = s.events ∨ ∃ d, t.events = s.events ++ [.rxfwd s.cfg.chId d] := by
  obtain ⟨-, rfl⟩ | ⟨d, -, -, rfl⟩ := State.forward_ok h
  · exact .inl rfl
  · exact .inr ⟨d, rfl⟩

/-- Settles O58: steps 1 to 3 by `beforeStep4`, step 4 by its rows, a receive tick by its path, and all else by its effect. -/
theorem eventsComeInOrder : Obligations.EventsComeInOrder := by
  unfold Obligations.EventsComeInOrder
  refine ⟨fun s t hrun hlive h => ?transmit, fun s t v h => ?receive, fun i s t htx hrx h => ?other⟩
  case transmit =>
    obtain ⟨-, -, -, -, -, -, hearlier⟩ := s.beforeStep4 hlive
    obtain ⟨last, hlast, hkinds⟩ := s.seenByStep4.step4_close_events
    rw [State.seenByStep4_state] at hkinds
    exact ⟨last, by rw [exec_txTick_running hrun h, hlast]; exact congrArg (· ++ last) hearlier, hkinds⟩
  case receive =>
    cases exec_effect h
    case answer hv => cases hv
    case gatedRx => exact .inl rfl
    case collected c _ hrxc _ =>
      exact (s.begin.collected_events c _).imp id fun hdelivered => .inl ⟨c, hrxc, hdelivered⟩
    case forwarded _ hrxc hf =>
      exact (State.forward_events hf).imp id fun ⟨d, hd⟩ => .inr ⟨d, hrxc, hd⟩
  case other =>
    cases exec_effect h
    case gatedTx | tick => exact absurd rfl htx
    case gatedRx v _ | collected v _ _ _ _ | forwarded v _ _ _ => exact absurd rfl (hrx v)
    all_goals rfl

/-! ### The item a tick sends (R216, R219, R221) -/

/-- From `s` to `t` the item `it`, the head of a queue, is sent and its completions are installed. -/
structure State.Sends (s t : State) (it : TxItem) : Prop where
  result : t.result = .slot (.cw it.cw)
  txcPending : t.txcPending = if it.txcEn = true then some it.txcTag else none
  rxcNext : t.rxcNext = if 1 ≤ it.rlen then some (collectorOf it) else s.rxcNext
  rsv : 1 ≤ it.rlen → t.rsv = it.rlen
  popped : (s.ccq = it :: t.ccq ∧ t.tcq = s.tcq) ∨ (s.tcq = it :: t.tcq ∧ t.ccq = s.ccq)

/-- From `s` to `t` no item is sent and no completion installed. -/
structure State.SendsNoItem (s t : State) : Prop where
  txcPending : t.txcPending = s.txcPending
  rxcNext : t.rxcNext = s.rxcNext
  ccq : t.ccq = s.ccq
  tcq : t.tcq = s.tcq

/-- Steps 4 and 5 send an item, or none. -/
theorem State.step4_close_sends (s : State) : (∃ it, s.Sends s.step4.close it) ∨ s.SendsNoItem s.step4.close := by
  rcases s.step4_close_cases with
    ⟨_, -, -, -, hc⟩ | ⟨-, -, hc⟩ | ⟨-, -, hc⟩ | ⟨it, rest, -, -, hq, hc⟩ | ⟨-, -, -, hc⟩ | ⟨-, -, hc⟩ | ⟨-, -, hc⟩ |
    ⟨it, rest, -, hq, hc⟩ | ⟨-, -, hc⟩ | ⟨-, hc⟩ <;> rw [hc]
  case inr.inr.inr.inl => exact .inl ⟨it, rfl, rfl, rfl, fun hlen => if_pos hlen, .inl ⟨hq, rfl⟩⟩
  case inr.inr.inr.inr.inr.inr.inr.inl => exact .inl ⟨it, rfl, rfl, rfl, fun hlen => if_pos hlen, .inr ⟨hq, rfl⟩⟩
  all_goals exact .inr ⟨rfl, rfl, rfl, rfl⟩

/-- Where a queue has lost its head to steps 4 and 5, the head is the item sent. -/
theorem State.sends_of_popped {s : State} {it : TxItem}
    (h : s.ccq = it :: s.step4.close.ccq ∨ s.tcq = it :: s.step4.close.tcq) : s.Sends s.step4.close it := by
  obtain ⟨it', hsent⟩ | hnone := s.step4_close_sends
  · obtain ⟨hcc, htc⟩ | ⟨htc, hcc⟩ := hsent.popped
    · obtain h | h := h
      · exact (List.cons.inj (hcc.symm.trans h)).1 ▸ hsent
      · exact absurd (htc.trans h) (List.cons_ne_self _ _).symm
    · obtain h | h := h
      · exact absurd (hcc.trans h) (List.cons_ne_self _ _).symm
      · exact (List.cons.inj (htc.symm.trans h)).1 ▸ hsent
  · obtain h | h := h
    · exact absurd (hnone.ccq.trans h) (List.cons_ne_self _ _).symm
    · exact absurd (hnone.tcq.trans h) (List.cons_ne_self _ _).symm

/-- An item of a queue after step 1 was there before, or is one of the answer's. -/
theorem State.afterStep1_items (s : State) (it : TxItem) :
    (it ∈ s.afterStep1.ccq → it ∈ s.ccq ∨ it ∈ controlItems s.nextTxcAnswer.ops) ∧
    (it ∈ s.afterStep1.tcq → it ∈ s.tcq ∨ it ∈ trafficItems s.nextTxcAnswer.ops) := by
  unfold State.afterStep1
  split
  · exact ⟨.inl, .inl⟩
  · exact ⟨List.mem_append.mp, List.mem_append.mp⟩

/-- An item of a queue after step 3 was there before, or is one of the answer's. -/
theorem State.afterStep3_items (s : State) (it : TxItem) :
    (it ∈ s.afterStep3.ccq → it ∈ s.ccq ∨ it ∈ controlItems s.nextAnswer) ∧
    (it ∈ s.afterStep3.tcq → it ∈ s.tcq ∨ it ∈ trafficItems s.nextAnswer) := by
  unfold State.afterStep3
  split
  · exact ⟨.inl, .inl⟩
  · split
    · split
      · exact ⟨List.mem_append.mp, List.mem_append.mp⟩
      · exact ⟨.inl, .inl⟩
    · exact ⟨.inl, .inl⟩

/-- The queues that step 4 sees hold what they held, and what the two answers enqueued. -/
theorem State.seenByStep4_items (s : State) (it : TxItem) (h : it ∈ s.seenByStep4.ccq ∨ it ∈ s.seenByStep4.tcq) :
    it ∈ s.ccq ∨ it ∈ s.tcq ∨ it ∈ controlItems s.nextTxcAnswer.ops ∨ it ∈ trafficItems s.nextTxcAnswer.ops ∨
      it ∈ controlItems s.nextAnswer ∨ it ∈ trafficItems s.nextAnswer := by
  obtain ⟨hcc3, htc3⟩ := s.begin.afterStep1.step2.afterStep3_items it
  obtain ⟨hcc1, htc1⟩ := s.begin.afterStep1_items it
  have hanswer : s.begin.afterStep1.step2.nextAnswer = s.nextAnswer := by
    rw [State.step2_eq, State.afterStep1]
    split <;> rfl
  have hcc2 : s.begin.afterStep1.step2.ccq = s.begin.afterStep1.ccq := by rw [State.step2_eq]
  have htc2 : s.begin.afterStep1.step2.tcq = s.begin.afterStep1.tcq := by rw [State.step2_eq]
  rw [hanswer, hcc2] at hcc3
  rw [hanswer, htc2] at htc3
  obtain h | h := h
  · obtain h | h := hcc3 h
    · exact (hcc1 h).elim .inl fun h => .inr (.inr (.inl h))
    · exact .inr (.inr (.inr (.inr (.inl h))))
  · obtain h | h := htc3 h
    · exact (htc1 h).elim (fun h => .inr (.inl h)) fun h => .inr (.inr (.inr (.inl h)))
    · exact .inr (.inr (.inr (.inr (.inr h))))

/-! ### The completion invoked (R212) -/

/-- No transmit-completion among the events. -/
def NoCompletion (es : List Event) : Prop := ∀ tag, Event.txc tag ∉ es

theorem NoCompletion.nil : NoCompletion [] := fun _ => List.not_mem_nil

theorem NoCompletion.append {a b : List Event} (ha : NoCompletion a) (hb : NoCompletion b) : NoCompletion (a ++ b) :=
  fun tag h => (List.mem_append.mp h).elim (ha tag) (hb tag)

theorem NoCompletion.single {e : Event} (h : ∀ tag, Event.txc tag ≠ e) : NoCompletion [e] :=
  fun tag hmem => h tag (List.mem_singleton.mp hmem)

/-- Step 1 raises `EV_TXC` for the completion pending, and nothing else. -/
theorem State.afterStep1_events (s : State) :
    s.afterStep1.events = s.events ++ s.txcPending.toList.map Event.txc := by
  unfold State.afterStep1
  split
  case h_1 hpending => rw [hpending]; exact (List.append_nil _).symm
  case h_2 hpending => rw [hpending]; rfl

/-- Step 3 raises no transmit-completion. -/
theorem State.afterStep3_events (s : State) : ∃ es, s.afterStep3.events = s.events ++ es ∧ NoCompletion es := by
  unfold State.afterStep3
  split
  · exact ⟨[], (List.append_nil _).symm, .nil⟩
  · split
    · split
      · exact ⟨_, rfl, .single fun _ => Event.noConfusion⟩
      · exact ⟨[], (List.append_nil _).symm, .nil⟩
    · exact ⟨[], (List.append_nil _).symm, .nil⟩

/-- A running tick raises `EV_TXC` for the completion pending, first, and for no other. -/
theorem exec_txTick_events {s t : State} (hrun : s.running = true) (h : exec .txTick s = .next t) :
    ∃ later, t.events = s.txcPending.toList.map Event.txc ++ later ∧ NoCompletion later := by
  obtain ⟨timeout, h3, htimeout⟩ := s.begin.afterStep1.step2.afterStep3_events
  obtain ⟨last, h4, hlast⟩ := s.seenByStep4.step4_close_events
  have hno : NoCompletion last := by
    obtain rfl | ⟨p, rfl, -⟩ | ⟨rfl, -⟩ := hlast
    · exact .nil
    · exact .single fun _ => Event.noConfusion
    · exact .single fun _ => Event.noConfusion
  refine ⟨timeout ++ last, ?_, htimeout.append hno⟩
  have h1 : s.begin.afterStep1.step2.events = s.txcPending.toList.map Event.txc := by
    rw [State.step2_eq]
    exact s.begin.afterStep1_events
  rw [exec_txTick_running hrun h, h4, State.seenByStep4, h3, h1, List.append_assoc]

/-- Settles O59: the item sent by `step4_close_sends`, the completion invoked by `exec_txTick_events`, and every other
instruction by its effect. -/
theorem completionBelongsToTheItemSent : Obligations.CompletionBelongsToTheItemSent := by
  unfold Obligations.CompletionBelongsToTheItemSent
  refine ⟨fun s t hrun h => ?item, fun s t it hrun hlive h hpopped => ?popped, fun s t hrun h => ?invoked,
    fun i s t hother h => ?other⟩
  case item =>
    rw [exec_txTick_running hrun h]
    obtain ⟨it, hsent⟩ | hnone := s.seenByStep4.step4_close_sends
    · cases hen : it.txcEn with
      | false => exact .inl (by rw [hsent.txcPending, hen]; rfl)
      | true =>
        have hmem : it ∈ s.seenByStep4.ccq ∨ it ∈ s.seenByStep4.tcq := by
          obtain ⟨hq, -⟩ | ⟨hq, -⟩ := hsent.popped <;> rw [hq]
          · exact .inl List.mem_cons_self
          · exact .inr List.mem_cons_self
        exact .inr ⟨it, hen, by rw [hsent.txcPending, hen]; rfl, hsent.result, s.seenByStep4_items it hmem⟩
    · exact .inl (hnone.txcPending.trans s.seenByStep4_txcPending)
  case popped =>
    obtain ⟨hccq, htcq, -⟩ := s.beforeStep4 hlive
    rw [← hccq, ← htcq] at hpopped
    rw [exec_txTick_running hrun h] at hpopped ⊢
    have hsent := State.sends_of_popped hpopped
    exact ⟨hsent.result, hsent.txcPending⟩
  case invoked =>
    obtain ⟨later, hevents, hno⟩ := exec_txTick_events hrun h
    refine ⟨fun tag hpending => ?_, fun hpending => ?_⟩
    · rw [hpending] at hevents
      exact ⟨later, hevents, hno⟩
    · rw [hpending] at hevents
      exact hevents ▸ hno
  case other =>
    cases exec_effect h
    case tick hrun _ => exact absurd hother (by simp [hrun])
    case reset => exact ⟨NoCompletion.nil, rfl⟩
    case collected v c _ _ _ =>
      refine ⟨?_, (s.begin.collected_keepsTxSlots c _).txcPending⟩
      obtain hevents | hevents := s.begin.collected_events c (mask48 v) <;> rw [hevents]
      · exact NoCompletion.nil
      · exact NoCompletion.single fun _ => Event.noConfusion
    case forwarded hf =>
      refine ⟨?_, (State.forward_keepsTxSlots hf).txcPending⟩
      obtain hevents | ⟨d, hevents⟩ := State.forward_events hf <;> rw [hevents]
      · exact NoCompletion.nil
      · exact NoCompletion.single fun _ => Event.noConfusion
    case answer hi =>
      refine ⟨NoCompletion.nil, (if_neg ?_).symm⟩
      rintro rfl
      cases hi
    all_goals exact ⟨NoCompletion.nil, rfl⟩

/-! ### The collector armed, fed and staged (R213, R221, R242) -/

/-- From `c0` to `c` a collector is fed or counts down: the words expected in all, the tag and the continuation stay. -/
structure Collector.Grown (c0 c : Collector) : Prop where
  length : c.acc.length + c.remaining = c0.acc.length + c0.remaining
  tag : c.tag = c0.tag
  en : c.en = c0.en
  acc : c0.acc <+: c.acc

theorem Collector.Grown.refl (c : Collector) : c.Grown c := ⟨rfl, rfl, rfl, List.prefix_rfl⟩

/-- Step 3 leaves the collector it counts down, or none (R214). -/
theorem State.afterStep3_rxc {s : State} {c : Collector} (h : s.afterStep3.rxc = some c) :
    ∃ k, s.rxc = some k ∧ k.Grown c := by
  unfold State.afterStep3 at h
  split at h
  case h_1 hnone => cases hnone.symm.trans h
  case h_2 k hrxc =>
    split at h
    · split at h <;> cases h
    · cases h
      exact ⟨k, hrxc, rfl, rfl, rfl, List.prefix_rfl⟩

/-- The collector path leaves the collector fed, or none (R242). -/
theorem State.collected_rxc {s : State} {c k : Collector} {cw : Codeword} (h : (s.collected k cw).rxc = some c) :
    k.Grown c := by
  unfold State.collected at h
  split at h
  · split at h <;> cases h
  case isFalse hmore =>
    cases h
    exact ⟨by simp only [List.length_append, List.length_singleton]; omega, rfl, rfl, List.prefix_append _ _⟩

theorem State.forward_rxc {s t : State} {cw : Codeword} (h : s.forward cw = .ok t) : t.rxc = s.rxc := by
  obtain ⟨-, rfl⟩ | ⟨_, -, -, rfl⟩ := State.forward_ok h <;> rfl

/-- The outstanding collector after an instruction has grown from the one outstanding or staged before. -/
theorem exec_rxc {i : Instr} {s t : State} (h : exec i s = .next t) {c : Collector} (hc : t.rxc = some c) :
    ∃ c0, (s.rxc = some c0 ∨ s.rxcNext = some c0) ∧ c0.Grown c := by
  cases exec_effect h
  case reset => cases hc
  case tick =>
    rw [State.step4_close_rxc] at hc
    obtain ⟨k, hk, hgrown⟩ := State.afterStep3_rxc hc
    have hcounted : countedCollector s = some k := by
      rw [State.step2_eq, State.afterStep1] at hk
      split at hk <;> exact hk
    exact ⟨k, (Option.or_eq_some_iff.mp hcounted).symm.imp And.right id, hgrown⟩
  case collected v k _ hrxc _ => exact ⟨k, .inl hrxc, State.collected_rxc hc⟩
  case forwarded hf => exact ⟨c, .inl ((State.forward_rxc hf).symm.trans hc), .refl c⟩
  all_goals exact ⟨c, .inl hc, .refl c⟩

/-- The invariant gives what the transmit tick's countdown asks for (R29; log 14). -/
theorem State.Inv.countdownLive {s : State} (h : s.Inv) : CountdownLive s := by
  intro k hk
  obtain hstaged | ⟨-, hout⟩ := Option.or_eq_some_iff.mp hk
  · exact (h.staged k hstaged).1.live.counting
  · exact (h.outstanding k hout).counting

/-- Settles O54: `exec_rxc` for the outstanding collector, and for the staged one the item sent. -/
theorem collectorLengthIsConserved : Obligations.CollectorLengthIsConserved := by
  unfold Obligations.CollectorLengthIsConserved
  intro i s t hinv h
  refine ⟨fun c hc => ?outstanding, fun c hc => ?staged⟩
  case outstanding =>
    obtain ⟨c0, hfrom, hgrown⟩ := exec_rxc h hc
    exact ⟨c0, hfrom, hgrown.length, hgrown.tag, hgrown.en, hgrown.acc⟩
  case staged =>
    cases exec_effect h
    case reset => cases hc
    case tick hrun _ =>
      refine .inr ⟨rfl, hrun, ?_⟩
      obtain ⟨hccq, htcq, -⟩ := s.beforeStep4 hinv.countdownLive
      obtain ⟨it, hsent⟩ | hnone := s.seenByStep4.step4_close_sends
      · rw [hsent.rxcNext, State.seenByStep4_rxcNext] at hc
        split at hc
        case isTrue hlen =>
          cases hc
          have hpopped := hsent.popped.imp And.left And.left
          rw [State.seenByStep4, hccq, htcq] at hpopped
          exact ⟨rfl, rfl, hsent.rsv hlen, it, rfl, rfl, rfl, hsent.result, hpopped⟩
        case isFalse => cases hc
      · cases (hnone.rxcNext.trans s.seenByStep4_rxcNext).symm.trans hc
    case gatedTx hstop => exact .inl ⟨hc, .inr hstop⟩
    case collected v k _ _ _ =>
      exact .inl ⟨(s.begin.collected_keepsTxSlots k _).rxcNext.symm.trans hc, .inl Instr.noConfusion⟩
    case forwarded hf => exact .inl ⟨(State.forward_keepsTxSlots hf).rxcNext.symm.trans hc, .inl Instr.noConfusion⟩
    case answer hi => exact .inl ⟨hc, .inl (by rintro rfl; cases hi)⟩
    all_goals exact .inl ⟨hc, .inl Instr.noConfusion⟩

end Sys2Proof.Machine
end

section
/-! PROOF. The window of a reservation (R213, R214, D15): with empty queues and a silent host each transmit tick only counts the
collector down, and the fourth one delivers the timeout. -/

namespace Sys2Proof.Machine

open Sys2Proof.Spec

/-- A running block with nothing queued, pending or staged, and a host that has no answer to give. -/
structure State.Waiting (s : State) : Prop where
  running : s.running = true
  txcPending : s.txcPending = none
  rxcNext : s.rxcNext = none
  ccq : s.ccq = []
  tcq : s.tcq = []
  answers : s.answers = []

theorem State.Waiting.of_eq {s t : State} (h : s.Waiting) (hrunning : t.running = s.running)
    (htxc : t.txcPending = s.txcPending) (hnext : t.rxcNext = s.rxcNext) (hcc : t.ccq = s.ccq) (htc : t.tcq = s.tcq)
    (hanswers : t.answers = s.answers) : t.Waiting :=
  ⟨hrunning.trans h.running, htxc.trans h.txcPending, hnext.trans h.rxcNext, hcc.trans h.ccq, htc.trans h.tcq,
    hanswers.trans h.answers⟩

/-- Steps 4 and 5 find no item to send. -/
theorem State.Waiting.step4_close {s : State} (h : s.Waiting) : s.step4.close.Waiting := by
  have hanswers : s.step4.close.answers = s.answers :=
    List.eq_nil_of_suffix_nil (h.answers ▸ s.step4_close_hostAhead.answers) |>.trans h.answers.symm
  obtain ⟨it, hsent⟩ | hnone := s.step4_close_sends
  · obtain ⟨hq, -⟩ | ⟨hq, -⟩ := hsent.popped
    · cases h.ccq.symm.trans hq
    · cases h.tcq.symm.trans hq
  · exact h.of_eq s.step4_close_running hnone.txcPending hnone.rxcNext hnone.ccq hnone.tcq hanswers

/-- A tick with two ticks or more to go only counts down. -/
theorem State.Waiting.tick_counting {s : State} {k : Collector} (h : s.Waiting) (hrxc : s.rxc = some k)
    (hleft : 2 ≤ k.countdown) : ∃ t, exec .txTick s = .next t ∧ t.Waiting ∧ t.inbox = s.inbox ∧
      t.rxc = some { k with countdown := k.countdown - 1 } := by
  have hstep3 := State.step3_of_counting (s := s.begin) hrxc hleft
  have hseen : State.Waiting { s.begin with rxc := some { k with countdown := k.countdown - 1 } } :=
    h.of_eq rfl rfl rfl rfl rfl rfl
  refine ⟨_, ?_, hseen.step4_close, State.step4_close_hostAhead _ |>.inbox, State.step4_close_rxc _⟩
  rw [exec_txTick_of_running h.running, State.tick_of_step3 (s := s.begin) h.txcPending h.rxcNext hstep3, conclude]

/-- The last tick clears the slot and delivers the timeout first, with no other receive-completion after it. -/
theorem State.Waiting.tick_timeout {s : State} {k : Collector} (h : s.Waiting) (hrxc : s.rxc = some k)
    (hlast : k.countdown = 1) (hen : k.en = true) : ∃ t later, exec .txTick s = .next t ∧ t.rxc = none ∧
      t.events = .rxc k.tag .timeout [] :: later ∧ ∀ tag st cws, Event.rxc tag st cws ∉ later := by
  have hsilent : s.begin.nextAnswer = [] := by rw [State.nextAnswer, State.begin_answers, h.answers, List.headD_nil]
  have hstep3 : s.begin.step3 = .ok { State.emit { s.begin with rxc := none } (.rxc k.tag .timeout []) with
      answers := s.answers.tail } := by
    rw [State.step3_of_timeout (s := s.begin) hrxc hlast.le hen]
    exact congrArg (applyOps _) hsilent
  obtain ⟨last, hevents, hkinds⟩ := State.step4_close_events
    { State.emit { s.begin with rxc := none } (.rxc k.tag .timeout []) with answers := s.answers.tail }
  refine ⟨_, last, ?_, State.step4_close_rxc _, hevents, fun tag st cws => ?_⟩
  · rw [exec_txTick_of_running h.running, State.tick_of_step3 (s := s.begin) h.txcPending h.rxcNext hstep3, conclude]
  · obtain rfl | ⟨p, rfl, -⟩ | ⟨rfl, -⟩ := hkinds
    · exact List.not_mem_nil
    · exact fun h => Event.noConfusion (List.mem_singleton.mp h)
    · exact fun h => Event.noConfusion (List.mem_singleton.mp h)

/-- A step that takes a transmit tick from the host is the tick of the state without it. -/
theorem step_of_txTick {s : State} {r : Request} {rest : List Request} (hdecode : decodeRequest r = .ok .txTick)
    (hinbox : s.inbox = r :: rest) : step s = exec .txTick { s with inbox := rest } := step_of_decoded hinbox hdecode

/-- A step of a waiting block with two ticks or more to go. -/
theorem State.Waiting.step_counting {s : State} {c : Collector} {n : Nat} {r : Request} {rest : List Request}
    (hdecode : decodeRequest r = .ok .txTick) (h : s.Waiting) (hinbox : s.inbox = r :: rest)
    (hrxc : s.rxc = some { c with countdown := n + 2 }) : ∃ t, step s = .next t ∧ t.Waiting ∧ t.inbox = rest ∧
      t.rxc = some { c with countdown := n + 1 } := by
  have htaken : State.Waiting { s with inbox := rest } := h.of_eq rfl rfl rfl rfl rfl rfl
  rw [step_of_txTick hdecode hinbox]
  exact htaken.tick_counting hrxc (Nat.le_add_left 2 n)

/-- Settles O60: the first tick arms, three ticks count down, the fourth delivers. -/
theorem unansweredReservationTimesOut : Obligations.UnansweredReservationTimesOut := by
  unfold Obligations.UnansweredReservationTimesOut
  intro s c r rest hrun hpending hstaged hwindow hen hccq htcq hanswers hdecode hinbox
  have harmed : State.Waiting { s with rxc := some c, rxcNext := none } := ⟨hrun, hpending, rfl, hccq, htcq, hanswers⟩
  have harms : step s = step { s with rxc := some c, rxcNext := none } := by
    rw [step_of_txTick hdecode hinbox, step_of_txTick (s := { s with rxc := some c, rxcNext := none }) hdecode hinbox]
    exact stepTwoArmsTheReservation { s with inbox := r :: r :: r :: rest } c hrun hpending hstaged
  have hfour : some c = some { c with countdown := 4 } := by rw [← hwindow]
  obtain ⟨t1, hstep1, hwait1, hinbox1, hrxc1⟩ := harmed.step_counting hdecode hinbox hfour
  obtain ⟨t2, hstep2, hwait2, hinbox2, hrxc2⟩ := hwait1.step_counting hdecode hinbox1 hrxc1
  obtain ⟨t3, hstep3, hwait3, hinbox3, hrxc3⟩ := hwait2.step_counting hdecode hinbox2 hrxc2
  have hrun3 : ∀ k, Host.Core.run core (k + 3) s = Host.Core.run core k t3 := fun k => by
    rw [run_of_step (harms.trans hstep1), run_of_step hstep2, run_of_step hstep3]
  refine ⟨⟨t3, hrun3 0, hrxc3⟩, ?fourth⟩
  case fourth =>
    have htaken : State.Waiting { t3 with inbox := rest } := hwait3.of_eq rfl rfl rfl rfl rfl rfl
    obtain ⟨t4, later, htick, hrxc4, hevents, hno⟩ := htaken.tick_timeout hrxc3 rfl hen
    have hstep4 : step t3 = .next t4 := (step_of_txTick hdecode hinbox3).trans htick
    exact ⟨t4, later, (hrun3 1).trans (run_of_step hstep4 0), hrxc4, hevents, hno⟩

end Sys2Proof.Machine
end
